-- ==== Sys2Proof/Word.lean ====
section
/-! DEFINITION. The bit words of the part: bytes on the ports, pixel codes, frame numbers, check values, flag sets. -/

namespace Sys2Proof

/-- One byte of a frame on either port (R170). -/
abbrev Byte := BitVec 8

/-- One 10-bit pixel code of a video link (00 Conventions, "Codes"). -/
abbrev PixelCode := BitVec 10

/-- A frame number, 0..4,294,967,295, wrapping (R109). -/
abbrev FrameNumber := BitVec 32

/-- A 32-bit check value (R128). -/
abbrev CheckValue := BitVec 32

/-- A set of the eleven attention flags, HELD in the lowest bit (R172). -/
abbrev FlagSet := BitVec 11

end Sys2Proof
end

