-- ==== Sys2Proof/Config.lean ====
section
/-! DEFINITION. What is fixed in the part, and the free values: constants without a body for what the spec leaves open. -/

namespace Sys2Proof

namespace Config

/-- The Grid Store's room, in trim triples (R3, R177). -/
def tripleCapacity : Nat := 131072

/-- The Update Queue never holds more entries (R40). -/
def updateCapacity : Nat := 256

/-- The Measurement Queue never holds more readings (R73). -/
def readingCapacity : Nat := 64

/-- MQ_LIMIT is true from this occupancy on (R74). -/
def readingLimit : Nat := 61

/-- The gap timer abandons a load at this accumulated time, in milliseconds (R133). -/
def gapLimit : Nat := 2000

/-- The largest settle and guard times, in milliseconds (R105). -/
def patternTimeLimit : Nat := 2000

/-- The Reopen failure count at which the part is locked out (R153, R154). -/
def failureLimit : Nat := 3

/-- Part code and revision (R177). -/
def partCode : Nat := 0x4460

/-- The revision Read Identity carries (R177). -/
def revision : Nat := 2

/-- The size at which frames are drawn while no descriptor is latched (R1, R35, R93). -/
def defaultWidth : Nat := 3840

/-- The height that goes with `defaultWidth`. -/
def defaultHeight : Nat := 2160

end Config

/-- The reply fields that carry a truth value whose two values no rule lists in an order (log 6). -/
inductive TruthField where
  /-- "grid defined" of Read Descriptor (R18) -/
  | descriptorDefined
  /-- "whether a grid is defined" of Read Summary (R20) -/
  | summaryDefined
  /-- ALL_CONVERGED of Read Summary (R20) -/
  | allConverged
  /-- MQ_LIMIT of Read Convergence (R87) -/
  | mqLimit
  /-- "whether it is the pending selection" of Look Up Region (R118) -/
  | lookUpPending
deriving DecidableEq, Repr

/-- FREE VALUE (log 6, DESIGN CHOICE): whether the truth value of a field numbers true as 0 and false as 1, or the
other way. R170 numbers enumerated values from 0 in the order their rule lists them, and these fields' rules list none. -/
opaque Config.truthFirst : TruthField → Bool

/-- FREE VALUE (log 16, DESIGN CHOICE): whether the class an interrupted revocation write leaves in an image entry that
was saved EMPTY is CONTENT (true) or PLATFORM (false). The argument counts the draws. -/
opaque Config.freeSlotIsContent : Nat → Bool

/-- FREE VALUE (log 16, DESIGN CHOICE): that entry's declared length, as (value + 1) times 16 bytes, so that it keeps
the limits of R125. -/
opaque Config.freeSlotLength : Nat → BitVec 6

/-- FREE VALUE (log 16, DESIGN CHOICE): that entry's check value. -/
opaque Config.freeSlotCheck : Nat → CheckValue

end Sys2Proof
end

