-- ==== Sys2Proof/Syntax.lean ====
section
/-! DEFINITION. The commands: one constructor for each row of spec/opcode_table.json. -/

namespace Sys2Proof

/-- The two request ports (00, "The outside of the part"). -/
inductive PortId where
  | line
  | set
deriving DecidableEq, Repr

/-- An input frame as the link makes it known at its start (R113): its active size, and the green codes of the first
pixels of line 0 (R95), at most six of them; log 33. -/
structure InputFrame where
  width : Nat
  height : Nat
  line0 : List PixelCode
deriving DecidableEq, Repr

/-- Where a frame start comes from (R113): internal timing, or an input frame that starts. -/
inductive FrameOrigin where
  | internal
  | input (frame : InputFrame)
deriving DecidableEq, Repr

/-- How a write of the image ends (R140, R160). -/
inductive WriteResult where
  | ok
  | fault
deriving DecidableEq, Repr

/-- A command the part takes. A request carries the port it arrived on and the bytes of its complete request frame after
the code byte: requested level, tag, payload length, payload (R170). -/
inductive Instr where
  /-- READ_IDENTITY, R177 -/
  | readIdentity (port : PortId) (bytes : List Byte)
  /-- READ_STATUS, R176 -/
  | readStatus (port : PortId) (bytes : List Byte)
  /-- READ_ATTENTION, R174 -/
  | readAttention (port : PortId) (bytes : List Byte)
  /-- SET_ATTENTION_MASK, R175 -/
  | setAttentionMask (port : PortId) (bytes : List Byte)
  /-- RESET, R162 -/
  | reset (port : PortId) (bytes : List Byte)
  /-- DEFINE_GRID, R16, R17 -/
  | defineGrid (port : PortId) (bytes : List Byte)
  /-- READ_DESCRIPTOR, R18 -/
  | readDescriptor (port : PortId) (bytes : List Byte)
  /-- READ_KNOTS, R19 -/
  | readKnots (port : PortId) (bytes : List Byte)
  /-- WRITE_KNOTS, R54, R55 -/
  | writeKnots (port : PortId) (bytes : List Byte)
  /-- ADJUST_KNOT, R56, R57 -/
  | adjustKnot (port : PortId) (bytes : List Byte)
  /-- PIN_AREA, R59 -/
  | pinArea (port : PortId) (bytes : List Byte)
  /-- UNPIN_AREA, R59 -/
  | unpinArea (port : PortId) (bytes : List Byte)
  /-- RETIRE_KNOT, R60 -/
  | retireKnot (port : PortId) (bytes : List Byte)
  /-- RESTORE_KNOT, R60 -/
  | restoreKnot (port : PortId) (bytes : List Byte)
  /-- READ_SUMMARY, R20 -/
  | readSummary (port : PortId) (bytes : List Byte)
  /-- SET_BYPASS, R37 -/
  | setBypass (port : PortId) (bytes : List Byte)
  /-- HOLD_UPDATES, R46 -/
  | holdUpdates (port : PortId) (bytes : List Byte)
  /-- RELEASE_UPDATES, R47 -/
  | releaseUpdates (port : PortId) (bytes : List Byte)
  /-- STEP_UPDATES, R48 -/
  | stepUpdates (port : PortId) (bytes : List Byte)
  /-- SET_TARGETS, R65 -/
  | setTargets (port : PortId) (bytes : List Byte)
  /-- SET_CONVERGENCE, R67 -/
  | setConvergence (port : PortId) (bytes : List Byte)
  /-- SUBMIT_READINGS, R68, R69, R71 -/
  | submitReadings (port : PortId) (bytes : List Byte)
  /-- READ_CONVERGENCE, R87 -/
  | readConvergence (port : PortId) (bytes : List Byte)
  /-- SELECT_SOURCE, R91 -/
  | selectSource (port : PortId) (bytes : List Byte)
  /-- SHOW_PATTERN, R94 -/
  | showPattern (port : PortId) (bytes : List Byte)
  /-- SET_PATTERN_TIMING, R106 -/
  | setPatternTiming (port : PortId) (bytes : List Byte)
  /-- STORE_REGION, R117 -/
  | storeRegion (port : PortId) (bytes : List Byte)
  /-- LOOK_UP_REGION, R118 -/
  | lookUpRegion (port : PortId) (bytes : List Byte)
  /-- SELECT_REGION, R119 -/
  | selectRegion (port : PortId) (bytes : List Byte)
  /-- RETIRE_REGION, R121 -/
  | retireRegion (port : PortId) (bytes : List Byte)
  /-- ERASE_REGION, R122 -/
  | eraseRegion (port : PortId) (bytes : List Byte)
  /-- READ_REGIONS, R118 -/
  | readRegions (port : PortId) (bytes : List Byte)
  /-- BEGIN_LOAD, R130, R131 -/
  | beginLoad (port : PortId) (bytes : List Byte)
  /-- LOAD_CHUNK, R132 -/
  | loadChunk (port : PortId) (bytes : List Byte)
  /-- END_LOAD, R134 -/
  | endLoad (port : PortId) (bytes : List Byte)
  /-- ABORT_LOAD, R135 -/
  | abortLoad (port : PortId) (bytes : List Byte)
  /-- READ_SLOT, R137 -/
  | readSlot (port : PortId) (bytes : List Byte)
  /-- FETCH_KEY, R138 -/
  | fetchKey (port : PortId) (bytes : List Byte)
  /-- REVOKE_SLOT, R139, R140 -/
  | revokeSlot (port : PortId) (bytes : List Byte)
  /-- ERASE_SLOT, R141 -/
  | eraseSlot (port : PortId) (bytes : List Byte)
  /-- SAVE_IMAGE, R157, R158 -/
  | saveImage (port : PortId) (bytes : List Byte)
  /-- SHIP, R146, R147, R148 -/
  | ship (port : PortId) (bytes : List Byte)
  /-- REOPEN, R153 -/
  | reopen (port : PortId) (bytes : List Byte)
  /-- UNKNOWN_REQUEST, R168: a frame whose code is no assigned request code -/
  | unknownRequest (port : PortId) (code : Byte) (bytes : List Byte)
  /-- IGNORED_FRAME, R168: the whole frame, empty or with code 0x00 or 0xFF -/
  | ignoredFrame (port : PortId) (frame : List Byte)
  /-- FETCH, R166, R167, R169: `count` bytes are clocked out after the port state byte -/
  | fetch (port : PortId) (count : Nat)
  /-- IGNORED_TRANSACTION, R166: all the bytes of the Line Port transaction -/
  | ignoredTransaction (bytes : List Byte)
  /-- POWER_ON_RESET, R162 -/
  | powerOnReset
  /-- RESET_LINE_ASSERTED, R162 -/
  | resetLineAsserted
  /-- RESET_LINE_RELEASED, R163 -/
  | resetLineReleased
  /-- INPUT_APPEARS, R114 -/
  | inputAppears
  /-- INPUT_LOST, R114, R26, R102 -/
  | inputLost
  /-- INPUT_FRAME_START, R115 -/
  | inputFrameStart (frame : InputFrame)
  /-- FRAME_START, R110 -/
  | frameStart (origin : FrameOrigin)
  /-- GUARD_EXPIRY, R51 -/
  | guardExpiry
  /-- GAP_EXPIRY, R133 -/
  | gapExpiry
  /-- HOLDING_START, R100, R103 -/
  | holdingStart
  /-- HOLDING_END, R103 -/
  | holdingEnd
  /-- EXAMINE_READING, R75 -/
  | examineReading
  /-- SAVE_COMPLETION, R160 -/
  | saveCompletion (result : WriteResult)
  /-- REVOCATION_WRITE_COMPLETION, R140 -/
  | revocationWriteCompletion (result : WriteResult)
  /-- START_UP_LOAD_COMPLETION, R164 -/
  | startUpLoadCompletion
  /-- SUPPLY_LOST, R162 -/
  | supplyLost
deriving DecidableEq, Repr

end Sys2Proof
end

