-- ==== Sys2Proof/WellFormed.lean ====
section
/-! DEFINITION. Which terms of `Instr` are commands of their row (log 34). -/

namespace Sys2Proof

/-- The assigned request codes (R170). -/
def assignedCodes : List Nat :=
  [0x01, 0x02, 0x03, 0x04, 0x05,
   0x10, 0x11, 0x12, 0x13, 0x14, 0x15, 0x16, 0x17, 0x18, 0x19, 0x1A, 0x1B, 0x1C, 0x1D,
   0x20, 0x21, 0x22, 0x23, 0x30, 0x31, 0x32,
   0x40, 0x41, 0x42, 0x43, 0x44, 0x45,
   0x50, 0x51, 0x52, 0x53, 0x54, 0x55, 0x56, 0x57,
   0x60, 0x61, 0x62]

/-- Codes 0x00 and 0xFF are never requests (R168). -/
def neverRequest (code : Byte) : Bool := code.toNat == 0x00 || code.toNat == 0xFF

/-- The code of an UNKNOWN_REQUEST: neither assigned nor one that is ignored outright (R168). -/
def unknownCode (code : Byte) : Bool := !neverRequest code && !assignedCodes.contains code.toNat

/-- A frame that is ignored outright: empty, or with code 0x00 or 0xFF (R168). -/
def ignoredOutright : List Byte → Bool
  | [] => true
  | code :: _ => neverRequest code

/-- A Line Port transaction that is ignored: no byte at all, or a direction byte that is neither 0x5A nor 0xA5 (R166). -/
def ignoredDirection : List Byte → Bool
  | [] => true
  | direction :: _ => !(direction.toNat == 0x5A || direction.toNat == 0xA5)

/-- An input frame has active pixels, and its line 0 gives the first six green codes or, in a narrower frame, all of
them (R95, log 33). -/
def InputFrame.wellFormed (f : InputFrame) : Bool :=
  1 ≤ f.width && 1 ≤ f.height && f.line0.length == min 6 f.width

/-- The term is a command of its row. Every byte list is a request frame's, so only the rows that are defined by the
value of a byte, and the input frames, ask anything. -/
def wellFormed (i : Instr) : Bool :=
  match i with
  | .unknownRequest _ code _ => unknownCode code
  | .ignoredFrame _ frame => ignoredOutright frame
  | .ignoredTransaction bytes => ignoredDirection bytes
  | .inputFrameStart frame => frame.wellFormed
  | .frameStart (.input frame) => frame.wellFormed
  | _ => true

end Sys2Proof
end

