-- ==== Sys2Proof/Decode.lean ====
section
/-! DEFINITION. Reading a command from its bits. No row of the opcode table gives bits, so `decodeTableWord` answers none
(log 40). The request frames, the Line Port's transactions and the Set Port's transfers have an encoding of their own (R166,
R167, R168, R170): `decodeFrame`, `decodeTransaction` and `decodeTransfer` read it, and `frameBytes` writes the frames. -/

namespace Sys2Proof

/-- The command a word spells by the table's bits: no row of the table gives any. -/
def decodeTableWord (_nbits _w : Nat) : Option Instr := none

/-- The request an assigned code names (R170), with the bytes after the code. -/
def requestOf? (code : Nat) (p : PortId) (bytes : List Byte) : Option Instr :=
  match code with
  | 0x01 => some (.readIdentity p bytes)
  | 0x02 => some (.readStatus p bytes)
  | 0x03 => some (.readAttention p bytes)
  | 0x04 => some (.setAttentionMask p bytes)
  | 0x05 => some (.reset p bytes)
  | 0x10 => some (.defineGrid p bytes)
  | 0x11 => some (.readDescriptor p bytes)
  | 0x12 => some (.readKnots p bytes)
  | 0x13 => some (.writeKnots p bytes)
  | 0x14 => some (.adjustKnot p bytes)
  | 0x15 => some (.pinArea p bytes)
  | 0x16 => some (.unpinArea p bytes)
  | 0x17 => some (.retireKnot p bytes)
  | 0x18 => some (.restoreKnot p bytes)
  | 0x19 => some (.readSummary p bytes)
  | 0x1A => some (.setBypass p bytes)
  | 0x1B => some (.holdUpdates p bytes)
  | 0x1C => some (.releaseUpdates p bytes)
  | 0x1D => some (.stepUpdates p bytes)
  | 0x20 => some (.setTargets p bytes)
  | 0x21 => some (.setConvergence p bytes)
  | 0x22 => some (.submitReadings p bytes)
  | 0x23 => some (.readConvergence p bytes)
  | 0x30 => some (.selectSource p bytes)
  | 0x31 => some (.showPattern p bytes)
  | 0x32 => some (.setPatternTiming p bytes)
  | 0x40 => some (.storeRegion p bytes)
  | 0x41 => some (.lookUpRegion p bytes)
  | 0x42 => some (.selectRegion p bytes)
  | 0x43 => some (.retireRegion p bytes)
  | 0x44 => some (.eraseRegion p bytes)
  | 0x45 => some (.readRegions p bytes)
  | 0x50 => some (.beginLoad p bytes)
  | 0x51 => some (.loadChunk p bytes)
  | 0x52 => some (.endLoad p bytes)
  | 0x53 => some (.abortLoad p bytes)
  | 0x54 => some (.readSlot p bytes)
  | 0x55 => some (.fetchKey p bytes)
  | 0x56 => some (.revokeSlot p bytes)
  | 0x57 => some (.eraseSlot p bytes)
  | 0x60 => some (.saveImage p bytes)
  | 0x61 => some (.ship p bytes)
  | 0x62 => some (.reopen p bytes)
  | _ => none

/-- The command a complete request frame is on a port (R168): every frame is one. -/
def decodeFrame (p : PortId) (frame : List Byte) : Instr :=
  match frame with
  | [] => .ignoredFrame p []
  | code :: bytes =>
    if neverRequest code then .ignoredFrame p (code :: bytes)
    else
      match requestOf? code.toNat p bytes with
      | some i => i
      | none => .unknownRequest p code bytes

/-- The command a Line Port transaction is, from the bytes clocked in (R166): direction byte 0x5A starts a request frame,
0xA5 a fetch in which every byte after the port state byte is clocked against one byte in; any other is ignored. -/
def decodeTransaction (bytes : List Byte) : Instr :=
  match bytes with
  | [] => .ignoredTransaction []
  | direction :: rest =>
    if direction.toNat = 0x5A then decodeFrame .line rest
    else if direction.toNat = 0xA5 then .fetch .line (rest.length - 1)
    else .ignoredTransaction (direction :: rest)

/-- The byte that eight bits spell, the most significant first (R166). -/
def byteOfBits (bits : List Bool) : Byte := BitVec.ofNat 8 (bits.foldl (fun n b => 2 * n + b.toNat) 0)

/-- The bytes clocked in by a Line Port transaction, from its bits in the order of their sampling; a byte the transaction
ends part way through is discarded (R166). -/
def bytesOfBits : List Bool → List Byte
  | b7 :: b6 :: b5 :: b4 :: b3 :: b2 :: b1 :: b0 :: rest =>
    byteOfBits [b7, b6, b5, b4, b3, b2, b1, b0] :: bytesOfBits rest
  | _ => []

/-- The command a Line Port transaction is, from the bits sampled between the fall and the rise of LCS_N (R166). -/
def decodeBits (bits : List Bool) : Instr := decodeTransaction (bytesOfBits bits)

/-- A transfer on the Set Port's bus (R167). Several transfers may follow one another under repeated starts; each is one of
these, complete at its own end. Transfers are of whole bytes (log 39). -/
inductive SetTransfer where
  /-- a write transfer: the address with the write direction, then the bytes the controller sends, up to a stop or a
  repeated start -/
  | write (address : BitVec 7) (bytes : List Byte)
  /-- a read transfer: the address with the read direction, then as many bytes as the controller takes, the port state byte
  among them, up to its not-acknowledge -/
  | read (address : BitVec 7) (taken : Nat)
deriving DecidableEq, Repr

/-- The address a transfer begins with (R167). -/
def SetTransfer.address : SetTransfer → BitVec 7
  | .write a _ => a
  | .read a _ => a

/-- The command a Set Port transfer is, once its address is acknowledged (R167): a write transfer carries a request frame; a
read transfer is a fetch, in which the bytes after the port state byte are clocked out. The port has no direction byte. -/
def decodeTransfer : SetTransfer → Instr
  | .write _ bytes => decodeFrame .set bytes
  | .read _ taken => .fetch .set (taken - 1)

/-- The complete frame of a request command, with its code (R170); none for a command that is no frame. -/
def frameBytes (i : Instr) : Option (List Byte) :=
  match i with
  | .readIdentity _ b => some (0x01 :: b)
  | .readStatus _ b => some (0x02 :: b)
  | .readAttention _ b => some (0x03 :: b)
  | .setAttentionMask _ b => some (0x04 :: b)
  | .reset _ b => some (0x05 :: b)
  | .defineGrid _ b => some (0x10 :: b)
  | .readDescriptor _ b => some (0x11 :: b)
  | .readKnots _ b => some (0x12 :: b)
  | .writeKnots _ b => some (0x13 :: b)
  | .adjustKnot _ b => some (0x14 :: b)
  | .pinArea _ b => some (0x15 :: b)
  | .unpinArea _ b => some (0x16 :: b)
  | .retireKnot _ b => some (0x17 :: b)
  | .restoreKnot _ b => some (0x18 :: b)
  | .readSummary _ b => some (0x19 :: b)
  | .setBypass _ b => some (0x1A :: b)
  | .holdUpdates _ b => some (0x1B :: b)
  | .releaseUpdates _ b => some (0x1C :: b)
  | .stepUpdates _ b => some (0x1D :: b)
  | .setTargets _ b => some (0x20 :: b)
  | .setConvergence _ b => some (0x21 :: b)
  | .submitReadings _ b => some (0x22 :: b)
  | .readConvergence _ b => some (0x23 :: b)
  | .selectSource _ b => some (0x30 :: b)
  | .showPattern _ b => some (0x31 :: b)
  | .setPatternTiming _ b => some (0x32 :: b)
  | .storeRegion _ b => some (0x40 :: b)
  | .lookUpRegion _ b => some (0x41 :: b)
  | .selectRegion _ b => some (0x42 :: b)
  | .retireRegion _ b => some (0x43 :: b)
  | .eraseRegion _ b => some (0x44 :: b)
  | .readRegions _ b => some (0x45 :: b)
  | .beginLoad _ b => some (0x50 :: b)
  | .loadChunk _ b => some (0x51 :: b)
  | .endLoad _ b => some (0x52 :: b)
  | .abortLoad _ b => some (0x53 :: b)
  | .readSlot _ b => some (0x54 :: b)
  | .fetchKey _ b => some (0x55 :: b)
  | .revokeSlot _ b => some (0x56 :: b)
  | .eraseSlot _ b => some (0x57 :: b)
  | .saveImage _ b => some (0x60 :: b)
  | .ship _ b => some (0x61 :: b)
  | .reopen _ b => some (0x62 :: b)
  | .unknownRequest _ code b => some (code :: b)
  | .ignoredFrame _ frame => some frame
  | .fetch .. => none
  | .ignoredTransaction _ => none
  | .powerOnReset => none
  | .resetLineAsserted => none
  | .resetLineReleased => none
  | .inputAppears => none
  | .inputLost => none
  | .inputFrameStart _ => none
  | .frameStart _ => none
  | .guardExpiry => none
  | .gapExpiry => none
  | .holdingStart => none
  | .holdingEnd => none
  | .examineReading => none
  | .saveCompletion _ => none
  | .revocationWriteCompletion _ => none
  | .startUpLoadCompletion => none
  | .supplyLost => none

/-- The port a frame command arrives on; none for a command that is no frame. -/
def framePort (i : Instr) : Option PortId :=
  match i with
  | .readIdentity p _ => some p
  | .readStatus p _ => some p
  | .readAttention p _ => some p
  | .setAttentionMask p _ => some p
  | .reset p _ => some p
  | .defineGrid p _ => some p
  | .readDescriptor p _ => some p
  | .readKnots p _ => some p
  | .writeKnots p _ => some p
  | .adjustKnot p _ => some p
  | .pinArea p _ => some p
  | .unpinArea p _ => some p
  | .retireKnot p _ => some p
  | .restoreKnot p _ => some p
  | .readSummary p _ => some p
  | .setBypass p _ => some p
  | .holdUpdates p _ => some p
  | .releaseUpdates p _ => some p
  | .stepUpdates p _ => some p
  | .setTargets p _ => some p
  | .setConvergence p _ => some p
  | .submitReadings p _ => some p
  | .readConvergence p _ => some p
  | .selectSource p _ => some p
  | .showPattern p _ => some p
  | .setPatternTiming p _ => some p
  | .storeRegion p _ => some p
  | .lookUpRegion p _ => some p
  | .selectRegion p _ => some p
  | .retireRegion p _ => some p
  | .eraseRegion p _ => some p
  | .readRegions p _ => some p
  | .beginLoad p _ => some p
  | .loadChunk p _ => some p
  | .endLoad p _ => some p
  | .abortLoad p _ => some p
  | .readSlot p _ => some p
  | .fetchKey p _ => some p
  | .revokeSlot p _ => some p
  | .eraseSlot p _ => some p
  | .saveImage p _ => some p
  | .ship p _ => some p
  | .reopen p _ => some p
  | .unknownRequest p _ _ => some p
  | .ignoredFrame p _ => some p
  | .fetch .. => none
  | .ignoredTransaction _ => none
  | .powerOnReset => none
  | .resetLineAsserted => none
  | .resetLineReleased => none
  | .inputAppears => none
  | .inputLost => none
  | .inputFrameStart _ => none
  | .frameStart _ => none
  | .guardExpiry => none
  | .gapExpiry => none
  | .holdingStart => none
  | .holdingEnd => none
  | .examineReading => none
  | .saveCompletion _ => none
  | .revocationWriteCompletion _ => none
  | .startUpLoadCompletion => none
  | .supplyLost => none

end Sys2Proof
end

