-- ==== Sys2Proof/Machine/State.lean ====
section
/-! DEFINITION. The state of the part, block by block as 00_scope.md lists them, and the state right after reset. -/

namespace Sys2Proof.Machine

open Sys2Proof

/-- The machine stops with a fault. The spec names no event that stops the part: a refused request is answered with a
status, and a write fault is a result (R140, R160). So there is no constructor; safe. -/
inductive Fault where
deriving DecidableEq, Repr

/-- No meaning for the term. -/
inductive Refusal where
  /-- An arm of `exec` that has no meaning yet raises it, with the row's mnemonic; safe. -/
  | notModelled (mnemonic : String)
  /-- The rows UNKNOWN_REQUEST, IGNORED_FRAME, IGNORED_TRANSACTION, INPUT_FRAME_START and FRAME_START raise it for a term
  that is no command of the row (`wellFormed` is false): no bytes or frames spell it; safe (log 34). -/
  | illFormed
deriving DecidableEq, Repr

/-! ## Grid Store -/

/-- One value for each of the channels R, G and B. -/
structure Rgb (α : Type) where
  r : α
  g : α
  b : α
deriving DecidableEq, Repr

/-- The channels (00, "Channels"). -/
inductive Channel where
  | red
  | green
  | blue
deriving DecidableEq, Repr

/-- A subset of the three channels. -/
abbrev ChannelSet := Rgb Bool

/-- The grid descriptor (1.1): panel width and height, spacing exponent, plane levels. -/
structure Descriptor where
  width : Nat
  height : Nat
  exponent : Nat
  levels : List Nat
deriving DecidableEq, Repr

/-- The states of a knot-plane record (1.4), in the order R4 lists them. -/
inductive KnotState where
  | unset
  | provisional
  | tracking
  | converged
  | pinned
  | retired
deriving DecidableEq, Repr

/-- A knot-plane record (R4). -/
structure KnotRecord where
  trim : Rgb Int
  state : KnotState
  hits : Rgb Nat
  limit : ChannelSet
  applied : Option FrameNumber
deriving DecidableEq, Repr

/-- The six counts kept for a plane (R13). -/
structure StateCounts where
  unset : Nat
  provisional : Nat
  tracking : Nat
  converged : Nat
  pinned : Nat
  retired : Nat
deriving DecidableEq, Repr

/-- The Grid Store. `records` is ordered by (plane, row, column) (R5); `allConverged` is the value last judged (R15). -/
structure GridStore where
  descriptor : Option Descriptor
  records : List KnotRecord
  counts : List StateCounts
  writeSkip : Nat
  allConverged : Bool
deriving DecidableEq, Repr

/-! ## Update Queue -/

/-- An entry of the Update Queue (R41). The channel set of a WRITE or ADJUST entry is the set of channels for which it
carries a value. -/
inductive Entry where
  | write (column row plane : Nat) (values : Rgb (Option Int))
  | adjust (column row plane : Nat) (deltas : Rgb (Option Int))
  | converge (column row plane : Nat) (trim : Rgb Int) (hits : Rgb Nat) (limit : ChannelSet) (state : KnotState)
  | pinArea (firstColumn firstRow lastColumn lastRow : Nat) (planes : BitVec 8)
  | unpinArea (firstColumn firstRow lastColumn lastRow : Nat) (planes : BitVec 8)
  | retire (column row : Nat)
  | restore (column row : Nat)
deriving DecidableEq, Repr

/-- The hold state (R46). -/
inductive HoldState where
  | released
  | held
  | stepPending
deriving DecidableEq, Repr

/-- The exposure guard (R50): stopped, or running with an accumulated time in milliseconds. -/
inductive Guard where
  | stopped
  | running (accumulated : Nat)
deriving DecidableEq, Repr

/-- The Update Queue (R40, R46, R50). The head of the list is the oldest entry. -/
structure UpdateQueue where
  entries : List Entry
  hold : HoldState
  guard : Guard
deriving DecidableEq, Repr

/-! ## Correction Engine -/

/-- How the pixels of a frame are produced (R22). -/
inductive Treatment where
  | starting
  | corrected
  | uncorrected
  | black
deriving DecidableEq, Repr

/-- The Correction Engine: the frame settings (R22) and the two bypass settings (R36). -/
structure CorrectionEngine where
  treatment : Treatment
  latched : Option Descriptor
  ceiling : Nat
  bypass : Bool
  lineBypass : Bool
  viewerBypass : Bool
deriving DecidableEq, Repr

/-! ## Convergence Unit -/

/-- What a reading carries for one channel: the measured luminance and the target recorded at intake (R71). -/
structure Measurement where
  luminance : Nat
  target : Nat
deriving DecidableEq, Repr

/-- A reading in the Measurement Queue (R71). Its channel set is the set of channels with a measurement. -/
structure Reading where
  column : Nat
  row : Nat
  plane : Nat
  values : Rgb (Option Measurement)
  intake : FrameNumber
deriving DecidableEq, Repr

/-- The loop parameters (R66). -/
structure LoopParameters where
  coefficient : Nat
  stepLimit : Nat
  tolerance : Nat
  settleCount : Nat
deriving DecidableEq, Repr

/-- The Convergence Unit (R64, R66, R73, R81). A target of 0 is unset. The head of the list is the oldest reading. -/
structure ConvergenceUnit where
  targets : Vector (Rgb Nat) 8
  parameters : LoopParameters
  readings : List Reading
  processed : Nat
  stale : Nat
  ignored : Nat
deriving DecidableEq, Repr

/-! ## Patterns -/

/-- The source of the frames (R90). -/
inductive Source where
  | external
  | internal
deriving DecidableEq, Repr

/-- The kind of a pattern (R92). -/
inductive PatternKind where
  | flat
  | ramp
deriving DecidableEq, Repr

/-- A test pattern of tag 1..255 (R92, R95). -/
structure Pattern where
  tag : Nat
  kind : PatternKind
  level : Nat
  channels : ChannelSet
deriving DecidableEq, Repr

/-- A generator pattern: the stopped pattern (tag 0), or a test pattern (R92). -/
inductive GeneratorPattern where
  | stopped
  | test (pattern : Pattern)
deriving DecidableEq, Repr

/-- The Pattern Generator (R90, R92). -/
structure PatternGenerator where
  effective : Source
  requested : Source
  stored : GeneratorPattern
  shown : Option GeneratorPattern
deriving DecidableEq, Repr

/-- The state of the Marker Detector (R97). -/
inductive Detection where
  | none
  | settling (candidate : Pattern) (source : Source) (accumulated : Nat)
  | held (pattern : Pattern) (source : Source) (beginFrame : FrameNumber)
deriving DecidableEq, Repr

/-- The Marker Detector (R97, R105). -/
structure MarkerDetector where
  state : Detection
  settleTime : Nat
  guardTime : Nat
deriving DecidableEq, Repr

/-! ## Frame Timing Unit -/

/-- The frame families (R111). -/
inductive Family where
  | f50
  | f60
  | f120
deriving DecidableEq, Repr

/-- The timing source (R113). -/
inductive TimingSource where
  | input
  | internal
deriving DecidableEq, Repr

/-- The INPUT condition (R115). -/
inductive InputCondition where
  | absent
  | present
  | mismatch
deriving DecidableEq, Repr

/-- What the frame in progress is made from (R26, R35, R90, R114). -/
inductive FrameContent where
  /-- an input frame -/
  | input (frame : InputFrame)
  /-- a frame the Pattern Generator draws -/
  | generated
  /-- an internally timed frame without input under an EXTERNAL source -/
  | black
  /-- vertical blanking and no active pixels until the next input frame start (R114) -/
  | blanking
deriving DecidableEq, Repr

/-- The frame in progress: its content, its active size, which it keeps once begun (R113), the step of the frame start that
began it (R98, R110), whether it began while the part was READY (R97), and whether a loss of input cut it off (R26,
R102). -/
structure Frame where
  content : FrameContent
  width : Nat
  height : Nat
  step : Nat
  begunReady : Bool
  cutOff : Bool
deriving DecidableEq, Repr

/-- The Frame Timing Unit (R109). `internalTail`: a reset was taken under an INTERNAL source with a signal on the input,
so that the frame in progress keeps its internal timing (R114, fifth event). -/
structure FrameTiming where
  number : FrameNumber
  family : Family
  phase : Nat
  source : TimingSource
  condition : InputCondition
  frame : Option Frame
  internalTail : Bool
deriving DecidableEq, Repr

/-! ## Region Table -/

/-- The fields of a region profile (R116). -/
structure Region where
  code : Nat
  family : Family
  ceiling : Nat
  allowsContent : Bool
  allowsPlatform : Bool
  viewerBypass : Bool
deriving DecidableEq, Repr

/-- The state of a profile that is not EMPTY (R116). -/
inductive ProfileState where
  | stored
  | active
  | retired
deriving DecidableEq, Repr

/-- A region profile: EMPTY, with no other field, or holding a region (R116). -/
inductive Profile where
  | empty
  | held (state : ProfileState) (region : Region)
deriving DecidableEq, Repr

/-- The Region Table (R116). -/
structure RegionTable where
  profiles : Vector Profile 8
  selection : Option (Fin 8)
deriving DecidableEq, Repr

/-! ## Credential Table -/

/-- The class of a key (R126). -/
inductive KeyClass where
  | content
  | platform
  | service
deriving DecidableEq, Repr

/-- A credential slot, each state with the fields present in it (R125). The received length of a LOADING slot is the
length of its data. Every data byte of a REVOKED slot is 0, so the slot holds none (log 36). -/
inductive Slot where
  | empty
  | loading (class_ : KeyClass) (declared : Nat) (data : List Byte)
  | loaded (class_ : KeyClass) (declared : Nat) (data : List Byte) (check : CheckValue)
  | bound (class_ : KeyClass) (declared : Nat) (data : List Byte) (check : CheckValue)
  | revoked (class_ : KeyClass) (declared : Nat) (check : CheckValue)
deriving DecidableEq, Repr

/-- A busy loading context: the slot being loaded and the gap timer, in milliseconds (R129). -/
structure LoadingContext where
  slot : Fin 16
  gap : Nat
deriving DecidableEq, Repr

/-- The Credential Table (R125, R129). `loading` is none while the loading context is idle. -/
structure CredentialTable where
  slots : Vector Slot 16
  loading : Option LoadingContext
deriving DecidableEq, Repr

/-! ## Mode Controller -/

/-- The modes (R143). -/
inductive Mode where
  | factory
  | service
  | field
deriving DecidableEq, Repr

/-- The Mode Controller (R143). `fuse` is true when the field fuse is set. -/
structure ModeController where
  mode : Mode
  fuse : Bool
  failures : Nat
  shipping : Bool
  boundByShip : List (Fin 16)
deriving DecidableEq, Repr

/-! ## Image Controller -/

/-- What the image keeps of a knot-plane record (R156). -/
structure SavedRecord where
  trim : Rgb Int
  state : KnotState
deriving DecidableEq, Repr

/-- The contents of an image (R156). -/
structure ImageContents where
  grid : Option (Descriptor × List SavedRecord)
  profiles : Vector Profile 8
  slots : Vector Slot 16
deriving DecidableEq, Repr

/-- The nonvolatile image by its condition (R156). What an INCOMPLETE image still holds is never read (R164), so the
model holds none of it (log 17). -/
inductive Image where
  | blank
  | incomplete
  | complete (contents : ImageContents)
deriving DecidableEq, Repr

/-- The save state (R160): SAVE_RUNNING with the contents taken at the beginning (R158), REVOCATION_RUNNING with the port
that waits and the slot (R140). -/
inductive WriteState where
  | idle
  | saving (contents : ImageContents)
  | revoking (port : PortId) (slot : Fin 16)
deriving DecidableEq, Repr

/-- The last save result (R160). -/
inductive SaveResult where
  | none
  | ok
  | writeFault
deriving DecidableEq, Repr

/-- The start-up state (R163): STARTING while RESET_N keeps the load from beginning, STARTING while the load runs,
READY. -/
inductive StartUp where
  | waiting
  | loading
  | ready
deriving DecidableEq, Repr

/-- The Image Controller (R156, R160, R161, R163). -/
structure ImageController where
  image : Image
  write : WriteState
  lastResult : SaveResult
  dirty : Bool
  startUp : StartUp
deriving DecidableEq, Repr

/-! ## Ports -/

/-- The statuses of a response, in the order of their codes (R170). -/
inductive Status where
  | ok
  | busy
  | unknownRequest
  | badLength
  | badValue
  | privilege
  | mode
  | starting
  | noGrid
  | outOfGrid
  | capacity
  | queueFull
  | held
  | notHeld
  | pinned
  | retired
  | stalePattern
  | levelMismatch
  | noTarget
  | duplicate
  | notFound
  | active
  | selected
  | slotState
  | outOfOrder
  | checkMismatch
  | notAllowed
  | denied
  | lockedOut
  | noCredential
  | notReady
  | writeFault
deriving DecidableEq, Repr

/-- A response frame (R170). -/
structure Response where
  status : Status
  tag : Byte
  payload : List Byte
deriving DecidableEq, Repr

/-- The port state (R165). -/
inductive PortPhase where
  | idle
  | pending
  | ready
deriving DecidableEq, Repr

/-- A port (R165). `tag` is the tag of the request last taken, for a reply placed later (R168, log 28). `driven` is the
model's own record of the last transfer on the port: the bytes a fetch put out, from the port state byte on, and nothing
after a request or an ignored transaction, during which the part drives 0x00 or nothing (R166; log 27). -/
structure Port where
  phase : PortPhase
  slot : Option Response
  ignored : Bool
  tag : Byte
  driven : List Byte
deriving DecidableEq, Repr

/-! ## Attention Unit, pins, and the model's own fields -/

/-- The Attention Unit: two flag sets and two masks, 1 meaning set and masked (R172, R173, R175). -/
structure AttentionUnit where
  lineFlags : FlagSet
  setFlags : FlagSet
  lineMask : FlagSet
  setMask : FlagSet
deriving DecidableEq, Repr

/-- Supply, pins, the Set Port address sampled at reset (R167), and whether the input link carries a signal (R113). -/
structure Pins where
  supply : Bool
  resetAsserted : Bool
  adselHigh : Bool
  address : BitVec 7
  signal : Bool
deriving DecidableEq, Repr

/-- How much of the Marker Detector's judgement at the coming frame start has been taken before it (log 3). -/
inductive Judgement where
  | notTaken
  | endTaken
  | taken
deriving DecidableEq, Repr

/-- The MODEL's own fields, not the spec's (log 35). -/
structure Book where
  judgement : Judgement
  guardFresh : Bool
  freeCount : Nat
deriving DecidableEq, Repr

/-- The state of the part, and the queue of the commands that wait, first in, first out. -/
structure State where
  pending : List Instr
  pins : Pins
  grid : GridStore
  queue : UpdateQueue
  engine : CorrectionEngine
  conv : ConvergenceUnit
  generator : PatternGenerator
  detector : MarkerDetector
  timing : FrameTiming
  regions : RegionTable
  creds : CredentialTable
  modes : ModeController
  store : ImageController
  linePort : Port
  setPort : Port
  attention : AttentionUnit
  book : Book
deriving DecidableEq, Repr

/-- A port right after a reset (R165). -/
def Port.afterReset : Port where
  phase := .idle
  slot := none
  ignored := false
  tag := 0
  driven := []

/-- The part right after a power-on reset of a part as it leaves manufacture: STARTING, the load begun (R162, R163),
fuse clear, image BLANK (log 18). Every other field is as the rules named in INVENTORY.md give for reset. -/
def State.reset : State where
  pending := []
  pins := { supply := true, resetAsserted := false, adselHigh := false, address := 0x3C, signal := false }
  grid := { descriptor := none, records := [], counts := [], writeSkip := 0, allConverged := false }
  queue := { entries := [], hold := .released, guard := .stopped }
  engine :=
    { treatment := .starting, latched := none, ceiling := 1023, bypass := false,
      lineBypass := false, viewerBypass := false }
  conv :=
    { targets := Vector.replicate 8 { r := 0, g := 0, b := 0 },
      parameters := { coefficient := 128, stepLimit := 1024, tolerance := 8, settleCount := 3 },
      readings := [], processed := 0, stale := 0, ignored := 0 }
  generator := { effective := .external, requested := .external, stored := .stopped, shown := none }
  detector := { state := .none, settleTime := 100, guardTime := 0 }
  timing :=
    { number := 0, family := .f60, phase := 0, source := .internal, condition := .absent,
      frame := none, internalTail := false }
  regions := { profiles := Vector.replicate 8 .empty, selection := none }
  creds := { slots := Vector.replicate 16 .empty, loading := none }
  modes := { mode := .factory, fuse := false, failures := 0, shipping := false, boundByShip := [] }
  store := { image := .blank, write := .idle, lastResult := .none, dirty := false, startUp := .loading }
  linePort := Port.afterReset
  setPort := Port.afterReset
  attention := { lineFlags := 0, setFlags := 0, lineMask := BitVec.allOnes 11, setMask := BitVec.allOnes 11 }
  book := { judgement := .notTaken, guardFresh := false, freeCount := 0 }

end Sys2Proof.Machine
end

