-- ==== Sys2Proof/Machine/Operands.lean ====
section
/-! DEFINITION. Operand forms: how numbers, sets, enumerated values and absent fields travel in frames (R170, R171), the
geometry of a descriptor (R2), and the readers of payloads. -/

namespace Sys2Proof.Machine

open Sys2Proof

/-! ## Channels -/

/-- The value of one channel. -/
def Rgb.get {α : Type} (v : Rgb α) : Channel → α
  | .red => v.r
  | .green => v.g
  | .blue => v.b

/-- The same value on every channel. -/
def Rgb.fill {α : Type} (a : α) : Rgb α := { r := a, g := a, b := a }

def Rgb.map {α β : Type} (f : α → β) (v : Rgb α) : Rgb β := { r := f v.r, g := f v.g, b := f v.b }

def Rgb.map2 {α β γ : Type} (f : α → β → γ) (v : Rgb α) (w : Rgb β) : Rgb γ :=
  { r := f v.r w.r, g := f v.g w.g, b := f v.b w.b }

/-- The values in the order R, G, B. -/
def Rgb.toList {α : Type} (v : Rgb α) : List α := [v.r, v.g, v.b]

/-- The values that are present, in the order R, G, B. -/
def Rgb.present {α : Type} (v : Rgb (Option α)) : List α := v.toList.filterMap id

/-- The channel set as a number: red 1, green 2, blue 4 (00, "Channels"). -/
def channelNumber (c : ChannelSet) : Nat :=
  (if c.r then 1 else 0) + (if c.g then 2 else 0) + (if c.b then 4 else 0)

/-- The channel set a number 1..7 stands for; none for any other number (00, "Channels"). -/
def channelSet? (n : Nat) : Option ChannelSet :=
  if 1 ≤ n ∧ n ≤ 7 then some { r := n.testBit 0, g := n.testBit 1, b := n.testBit 2 } else none

/-- How many channels the set names. -/
def channelCount (c : ChannelSet) : Nat := (c.toList.filter id).length

/-- Every channel of `a` lies in `b`. -/
def channelsWithin (a b : ChannelSet) : Bool := (a.map2 (fun x y => !x || y) b).toList.all id

/-! ## Numbers in frames -/

/-- A field of one byte (R171). -/
def u8 (n : Nat) : List Byte := [BitVec.ofNat 8 n]

/-- A field of two bytes, little-endian (R170, R171). -/
def u16 (n : Nat) : List Byte := [BitVec.ofNat 8 n, BitVec.ofNat 8 (n / 256)]

/-- A field of four bytes, little-endian (R170, R171). -/
def u32 (n : Nat) : List Byte := u16 n ++ u16 (n / 65536)

/-- A two's-complement field of two bytes (R171). -/
def s16 (i : Int) : List Byte := u16 (BitVec.ofInt 16 i).toNat

/-- The number two bytes carry, least significant first. -/
def nat16 (lo hi : Byte) : Nat := lo.toNat + 256 * hi.toNat

/-- The signed number two bytes carry. -/
def int16 (lo hi : Byte) : Int := (BitVec.ofNat 16 (nat16 lo hi)).toInt

/-- The check value four bytes carry, least significant first (R128). -/
def check32 (a b c d : Byte) : CheckValue := BitVec.ofNat 32 (nat16 a b + 65536 * nat16 c d)

/-- A field that may be absent: a presence byte, then the value when present (R170). -/
def optional {α : Type} (value : α → List Byte) : Option α → List Byte
  | none => u8 0
  | some a => u8 1 ++ value a

/-- A two-valued field whose rule lists the negative value first: off, clear, no = 0 (R170, R171, R176). -/
def flagByte (b : Bool) : List Byte := u8 (if b then 1 else 0)

/-- A truth value whose values no rule lists: the numbering is a free value (log 6). -/
def truthByte (f : TruthField) (b : Bool) : List Byte := u8 (if b == Config.truthFirst f then 0 else 1)

/-- Viewer bypass permitted travels as R116 lists it, "yes or no": yes 0, no 1 (R170; DEDUCED, log 7). -/
def permitByte (b : Bool) : List Byte := u8 (if b then 0 else 1)

/-! ## Enumerated values, numbered from 0 in the order their rule lists them (R170) -/

def KnotState.number : KnotState → Nat
  | .unset => 0 | .provisional => 1 | .tracking => 2 | .converged => 3 | .pinned => 4 | .retired => 5

def HoldState.number : HoldState → Nat
  | .released => 0 | .held => 1 | .stepPending => 2

def Source.number : Source → Nat
  | .external => 0 | .internal => 1

def source? : Nat → Option Source
  | 0 => some .external | 1 => some .internal | _ => none

def PatternKind.number : PatternKind → Nat
  | .flat => 0 | .ramp => 1

def patternKind? : Nat → Option PatternKind
  | 0 => some .flat | 1 => some .ramp | _ => none

def Family.number : Family → Nat
  | .f50 => 0 | .f60 => 1 | .f120 => 2

def family? : Nat → Option Family
  | 0 => some .f50 | 1 => some .f60 | 2 => some .f120 | _ => none

def InputCondition.number : InputCondition → Nat
  | .absent => 0 | .present => 1 | .mismatch => 2

/-- The number of a profile state: EMPTY is 0 (R116). -/
def ProfileState.number : ProfileState → Nat
  | .stored => 1 | .active => 2 | .retired => 3

def KeyClass.number : KeyClass → Nat
  | .content => 0 | .platform => 1 | .service => 2

def keyClass? : Nat → Option KeyClass
  | 0 => some .content | 1 => some .platform | 2 => some .service | _ => none

/-- The number of a slot's state, in the order R125 lists them. -/
def Slot.number : Slot → Nat
  | .empty => 0 | .loading .. => 1 | .loaded .. => 2 | .bound .. => 3 | .revoked .. => 4

def Mode.number : Mode → Nat
  | .factory => 0 | .service => 1 | .field => 2

/-- The start-up state as Read Status reports it: STARTING 0, READY 1 (R176). -/
def StartUp.number : StartUp → Nat
  | .waiting => 0 | .loading => 0 | .ready => 1

def WriteState.number : WriteState → Nat
  | .idle => 0 | .saving _ => 1 | .revoking .. => 2

def SaveResult.number : SaveResult → Nat
  | .none => 0 | .ok => 1 | .writeFault => 2

def PortPhase.number : PortPhase → Nat
  | .idle => 0 | .pending => 1 | .ready => 2

/-- The status codes (R170). -/
def Status.code : Status → Nat
  | .ok => 0x00 | .busy => 0x01 | .unknownRequest => 0x02 | .badLength => 0x03
  | .badValue => 0x04 | .privilege => 0x05 | .mode => 0x06 | .starting => 0x07
  | .noGrid => 0x08 | .outOfGrid => 0x09 | .capacity => 0x0A | .queueFull => 0x0B
  | .held => 0x0C | .notHeld => 0x0D | .pinned => 0x0E | .retired => 0x0F
  | .stalePattern => 0x10 | .levelMismatch => 0x11 | .noTarget => 0x12 | .duplicate => 0x13
  | .notFound => 0x14 | .active => 0x15 | .selected => 0x16 | .slotState => 0x17
  | .outOfOrder => 0x18 | .checkMismatch => 0x19 | .notAllowed => 0x1A | .denied => 0x1B
  | .lockedOut => 0x1C | .noCredential => 0x1D | .notReady => 0x1E | .writeFault => 0x1F

/-! ## Responses and the port state byte -/

/-- The bytes of a response frame (R170). -/
def Response.bytes (r : Response) : List Byte :=
  u8 r.status.code ++ [r.tag] ++ u16 r.payload.length ++ r.payload

/-- The port state byte: bits 1..0 the port state, bit 2 the ignored mark (R170). -/
def Port.stateByte (p : Port) : Byte :=
  BitVec.ofNat 8 (p.phase.number + (if p.ignored then 4 else 0))

/-! ## Descriptors -/

/-- Knot spacing in pixels (1.1). -/
def Descriptor.spacing (d : Descriptor) : Nat := 2 ^ d.exponent

/-- The quotient rounded up. -/
def ceilDiv (n m : Nat) : Nat := (n + (m - 1)) / m

/-- Knot columns (R2). -/
def Descriptor.columns (d : Descriptor) : Nat := ceilDiv d.width d.spacing + 1

/-- Knot rows (R2). -/
def Descriptor.rows (d : Descriptor) : Nat := ceilDiv d.height d.spacing + 1

/-- Knot count (R2). -/
def Descriptor.knots (d : Descriptor) : Nat := d.columns * d.rows

/-- Plane count (1.1). -/
def Descriptor.planes (d : Descriptor) : Nat := d.levels.length

/-- Triple count (R3). -/
def Descriptor.triples (d : Descriptor) : Nat := d.knots * d.planes

/-- Where the record of knot (column, row) at a plane stands in the collection ordered by (plane, row, column) (R5). -/
def Descriptor.index (d : Descriptor) (plane row column : Nat) : Nat :=
  (plane * d.rows + row) * d.columns + column

/-- The knot lies in the grid (R2). -/
def Descriptor.holds (d : Descriptor) (column row : Nat) : Bool := column < d.columns && row < d.rows

/-- Each number is below the next. -/
def strictlyIncreasing : List Nat → Bool
  | a :: b :: rest => a < b && strictlyIncreasing (b :: rest)
  | _ => true

/-! ## Tables -/

/-- A table index, when the number is in its range. -/
def index? (n : Nat) (i : Nat) : Option (Fin n) := if h : i < n then some ⟨i, h⟩ else none

/-- A function applied to every item of a table. -/
def mapTable {α β : Type} {n : Nat} (f : α → β) (v : Vector α n) : Vector β n :=
  ⟨⟨v.toList.map f⟩, by simp⟩

/-- The least index whose item meets the test. -/
def findIndex? {α : Type} {n : Nat} (v : Vector α n) (test : α → Bool) : Option (Fin n) :=
  (List.finRange n).find? (fun i => test v[i])

/-! ## Regions and slots -/

/-- The state and fields of a profile as they travel: an EMPTY profile has its state only (R116, R118, log 9). -/
def Profile.bytes : Profile → List Byte
  | .empty => u8 0
  | .held st r =>
    u8 st.number ++ u16 r.code ++ u8 r.family.number ++ u16 r.ceiling ++
      u8 ((if r.allowsContent then 1 else 0) + (if r.allowsPlatform then 2 else 0)) ++ permitByte r.viewerBypass

/-- The region a profile holds, unless EMPTY. -/
def Profile.region? : Profile → Option Region
  | .empty => none
  | .held _ r => some r

/-- The profile is in the given state. -/
def Profile.isIn (p : Profile) (st : ProfileState) : Bool :=
  match p with
  | .empty => false
  | .held st' _ => st' == st

/-- The profile carries the region code (R116: an EMPTY profile carries none). -/
def Profile.carries (p : Profile) (code : Nat) : Bool :=
  match p with
  | .empty => false
  | .held _ r => r.code == code

/-- The class of a slot; an EMPTY slot has none (R125). -/
def Slot.class? : Slot → Option KeyClass
  | .empty => none
  | .loading c .. => some c
  | .loaded c .. => some c
  | .bound c .. => some c
  | .revoked c .. => some c

/-- The state of a slot and the fields reported in that state (R137). -/
def Slot.report (s : Slot) : List Byte :=
  u8 s.number ++
    match s with
    | .empty => []
    | .loading c n d => u8 c.number ++ u16 n ++ u16 d.length
    | .loaded c n _ k => u8 c.number ++ u16 n ++ u32 k.toNat
    | .bound c n _ k => u8 c.number ++ u16 n ++ u32 k.toNat
    | .revoked c n k => u8 c.number ++ u16 n ++ u32 k.toNat

/-! ## Checks and readers of payloads

An owning block's checks stand in an order, and the first that fails refuses the request with a status and, in a few
rules, some fields. The readers take the payload in order and refuse with BAD_LENGTH where it ends before a field
(R56, R69; log 10). -/

/-- The outcome of checks: what was read, or the refusal's status and payload. -/
abbrev Check (α : Type) := Except (Status × List Byte) α

/-- A check: the condition that must hold, and the refusal when it does not. -/
def require (condition : Bool) (status : Status) (fields : List Byte := []) : Check Unit :=
  if condition then .ok () else .error (status, fields)

/-- A check that finds something: the refusal when there is none. -/
def requireSome {α : Type} (found : Option α) (status : Status) (fields : List Byte := []) : Check α :=
  match found with
  | some a => .ok a
  | none => .error (status, fields)

def read8 : List Byte → Check (Nat × List Byte)
  | a :: rest => .ok (a.toNat, rest)
  | [] => .error (.badLength, [])

def read16 : List Byte → Check (Nat × List Byte)
  | lo :: hi :: rest => .ok (nat16 lo hi, rest)
  | _ => .error (.badLength, [])

def readInt16 : List Byte → Check (Int × List Byte)
  | lo :: hi :: rest => .ok (int16 lo hi, rest)
  | _ => .error (.badLength, [])

/-- A value for one channel, read when the channel is in the set. -/
def readChannel {α : Type} (read : List Byte → Check (α × List Byte)) (wanted : Bool) (bytes : List Byte) :
    Check (Option α × List Byte) :=
  if wanted then
    match read bytes with
    | .ok (a, rest) => .ok (some a, rest)
    | .error e => .error e
  else .ok (none, bytes)

/-- One value for each channel of the set, in the order R, G, B (R54, R56, R68). -/
def readChannels {α : Type} (read : List Byte → Check (α × List Byte)) (set : ChannelSet) (bytes : List Byte) :
    Check (Rgb (Option α) × List Byte) := do
  let (r, bytes) ← readChannel read set.r bytes
  let (g, bytes) ← readChannel read set.g bytes
  let (b, bytes) ← readChannel read set.b bytes
  return ({ r := r, g := g, b := b }, bytes)

end Sys2Proof.Machine
end

