-- ==== Sys2Proof/Machine/Flags.lean ====
section
/-! DEFINITION. The Attention Unit's flags and lines (R172, R173), and the conditions that raise them: ALL_CONVERGED
(R15), MQ_LIMIT (R74), INPUT (R115); the dirty flag (R161). -/

namespace Sys2Proof.Machine

open Sys2Proof

/-- The attention flags, in bit order (R172). -/
inductive Flag where
  | held
  | mqLimit
  | stale
  | trimLimit
  | converged
  | input
  | region
  | load
  | save
  | store
  | reopenFail
deriving DecidableEq, Repr

/-- The bit of a flag (R172). -/
def Flag.bit : Flag → Nat
  | .held => 0 | .mqLimit => 1 | .stale => 2 | .trimLimit => 3 | .converged => 4 | .input => 5
  | .region => 6 | .load => 7 | .save => 8 | .store => 9 | .reopenFail => 10

/-- The set of one flag. -/
def Flag.mask (f : Flag) : FlagSet := BitVec.ofNat 11 (2 ^ f.bit)

/-- A raising sets the flag in both ports' sets, whatever the masks hold (R172). -/
def AttentionUnit.raise (a : AttentionUnit) (f : Flag) : AttentionUnit :=
  { a with lineFlags := a.lineFlags ||| f.mask, setFlags := a.setFlags ||| f.mask }

/-- Raises a flag when the condition holds. -/
def State.raiseIf (s : State) (condition : Bool) (f : Flag) : State :=
  if condition then { s with attention := s.attention.raise f } else s

/-- A port's flags. -/
def AttentionUnit.flags (a : AttentionUnit) : PortId → FlagSet
  | .line => a.lineFlags
  | .set => a.setFlags

/-- A port's mask. -/
def AttentionUnit.maskOf (a : AttentionUnit) : PortId → FlagSet
  | .line => a.lineMask
  | .set => a.setMask

/-- Clears every flag of one port's set (R174). -/
def AttentionUnit.clear (a : AttentionUnit) : PortId → AttentionUnit
  | .line => { a with lineFlags := 0 }
  | .set => { a with setFlags := 0 }

/-- Replaces one port's mask (R175). -/
def AttentionUnit.withMask (a : AttentionUnit) (m : FlagSet) : PortId → AttentionUnit
  | .line => { a with lineMask := m }
  | .set => { a with setMask := m }

/-- LALERT_N or SALERT_N is driven low: a flag of the port is set and unmasked; released while RESET_N is asserted (R173)
and without supply (log 19). -/
def State.alertLow (s : State) (p : PortId) : Bool :=
  s.pins.supply && !s.pins.resetAsserted && s.attention.flags p &&& ~~~s.attention.maskOf p != 0

/-- The MQ_LIMIT condition (R74). -/
def mqLimit (occupancy : Nat) : Bool := Config.readingLimit ≤ occupancy

/-- All the counts of one kind, summed over the planes (R15). -/
def countAll (counts : List StateCounts) (kind : StateCounts → Nat) : Nat := (counts.map kind).sum

/-- ALL_CONVERGED judged from the per-plane counts (R15). -/
def GridStore.judge (g : GridStore) : Bool :=
  match g.descriptor with
  | none => false
  | some d =>
    0 < countAll g.counts (·.converged) &&
      countAll g.counts (·.converged) == d.triples - countAll g.counts (·.pinned) - countAll g.counts (·.retired)

/-- ALL_CONVERGED is judged again: CONVERGED attention is raised when the value differs from the one judged before
(R15). -/
def State.judgeConverged (s : State) : State :=
  let s' := { s with grid := { s.grid with allConverged := s.grid.judge } }
  s'.raiseIf (s.grid.judge != s.grid.allConverged) .converged

/-- The INPUT condition takes a value: a change raises INPUT attention (R115). -/
def State.judgeInput (s : State) (c : InputCondition) : State :=
  let s' := { s with timing := { s.timing with condition := c } }
  s'.raiseIf (c != s.timing.condition) .input

/-- The dirty flag is set (R161). -/
def State.setDirty (s : State) : State := { s with store := { s.store with dirty := true } }

/-- A count 0..65535 that stays at 65535 (R14, R81). -/
def bump (n : Nat) : Nat := if n < 65535 then n + 1 else n

end Sys2Proof.Machine
end

