-- ==== Sys2Proof/Machine/Ops.lean ====
section
/-! DEFINITION. The ports: judging a frame, placing replies, access levels (R144, R165, R168); resets (R162); the marks of
the image being written that the blocks' checks read. -/

namespace Sys2Proof.Machine

open Sys2Proof

/-! ## Ports -/

/-- A port's state. -/
def State.port (s : State) : PortId → Port
  | .line => s.linePort
  | .set => s.setPort

/-- Replaces a port's state. -/
def State.withPort (s : State) (p : PortId) (q : Port) : State :=
  match p with
  | .line => { s with linePort := q }
  | .set => { s with setPort := q }

/-- A request that has just arrived is answered: its reply is placed in the port's slot and the port becomes READY (R165).
The ignored mark is kept, and the port has put out no byte in the transfer (R166, log 27). -/
def State.answered (s : State) (p : PortId) (tag : Byte) (status : Status) (payload : List Byte) : State :=
  s.withPort p { s.port p with phase := .ready, slot := some { status := status, tag := tag, payload := payload },
                               tag := tag, driven := [] }

/-- A request is taken whose reply comes later: the port is PENDING and holds no response (R165). -/
def State.awaiting (s : State) (p : PortId) (tag : Byte) : State :=
  s.withPort p { s.port p with phase := .pending, slot := none, tag := tag, driven := [] }

/-- The deferred reply is placed, with the tag of the request that waits (R165, R168). -/
def State.placeReply (s : State) (p : PortId) (status : Status) (payload : List Byte) : State :=
  s.withPort p { s.port p with phase := .ready,
                               slot := some { status := status, tag := (s.port p).tag, payload := payload } }

/-- The ports take no frame: no supply, or RESET_N held asserted (R165). -/
def State.deaf (s : State) : Bool := !s.pins.supply || s.pins.resetAsserted

/-- A frame arrives on a port and is lost, since the port is PENDING: the ignored mark is set (R165). -/
def State.loseFrame (s : State) (p : PortId) : State :=
  s.withPort p { s.port p with ignored := true, driven := [] }

/-- A transfer on a port that is ignored outright: port state, slot and mark are unchanged, and the part puts out no byte
but 0x00 (R166, R168). -/
def State.ignoreTransfer (s : State) (p : PortId) : State :=
  if s.deaf then s else s.withPort p { s.port p with driven := [] }

/-- The port's floor in the current mode (R144). -/
def floor (m : Mode) : PortId → Nat
  | .set => 2
  | .line =>
    match m with
    | .factory => 0
    | .service => 1
    | .field => 2

/-- The effective level: the larger of the requested level and the floor (R144). -/
def State.effectiveLevel (s : State) (p : PortId) (requested : Byte) : Nat :=
  max requested.toNat (floor s.modes.mode p)

/-! ## Judging a frame (R168) -/

/-- What a frame of sound length carries after its code. -/
structure Header where
  level : Byte
  tag : Byte
  payload : List Byte
deriving DecidableEq, Repr

/-- The bytes after the code of a frame of sound length: level, tag, payload length, payload (R170). -/
def Header.bytes (h : Header) : List Byte := h.level :: h.tag :: (u16 h.payload.length ++ h.payload)

/-- The header and payload of a frame, from the bytes after the code: none when the frame is shorter than its header, the
stated length exceeds 256, or the bytes after the header are not that many (R168, check 3). -/
def header? : List Byte → Option Header
  | level :: tag :: lo :: hi :: payload =>
    if nat16 lo hi ≤ 256 ∧ payload.length = nat16 lo hi then
      some { level := level, tag := tag, payload := payload }
    else none
  | _ => none

/-- The tag a response echoes: 0 where the frame was too short to carry one (R168). -/
def tagOf : List Byte → Byte
  | _ :: tag :: _ => tag
  | _ => 0

/-- How the port judges a request: the payload length it checks, if it checks one (R171), the required level (R145, R129)
and whether the request is answered during STARTING (R163). -/
structure Gate where
  length : Option Nat
  level : State → List Byte → Nat
  starting : Bool := false

/-- The stated payload length is the length of the request's fields, where the port checks it (R168, R171). -/
def Gate.lengthHolds (g : Gate) (payload : List Byte) : Bool :=
  match g.length with
  | none => true
  | some n => payload.length == n

/-- A request passed to its owning block: the port it came on, its effective level and tag, its payload. -/
structure Call where
  port : PortId
  level : Nat
  tag : Byte
  payload : List Byte
deriving DecidableEq, Repr

/-- What a request that is taken does. -/
inductive Answer where
  /-- answered as it is taken -/
  | reply (status : Status) (payload : List Byte) (after : State)
  /-- answered later: the port stays PENDING (R57, R139, R148) -/
  | wait (after : State)
  /-- no reply: a Reset request (R162) -/
  | silent (after : State)

/-- The state after a request that reached its owning block. A refused request changes nothing (00, "Names"). -/
def State.settle (s : State) (p : PortId) (tag : Byte) : Check Answer → State
  | .error (status, fields) => s.answered p tag status fields
  | .ok (.reply status payload after) => after.answered p tag status payload
  | .ok (.wait after) => after.awaiting p tag
  | .ok (.silent after) => after

/-- Checks 3 to 7 of R168, for a frame of an assigned request taken by a port that is not PENDING. -/
def State.judge (s : State) (g : Gate) (p : PortId) (bytes : List Byte) (own : Call → State → Check Answer) : State :=
  match header? bytes with
  | none => s.answered p (tagOf bytes) .badLength []
  | some h =>
    if !g.lengthHolds h.payload then s.answered p h.tag .badLength []
    else if s.store.startUp != .ready && !g.starting then s.answered p h.tag .starting []
    else if g.level s h.payload < s.effectiveLevel p h.level then s.answered p h.tag .privilege []
    else
      s.settle p h.tag
        (own { port := p, level := s.effectiveLevel p h.level, tag := h.tag, payload := h.payload } s)

/-- A complete request frame of an assigned request arrives (R165, R168). -/
def State.serve (s : State) (g : Gate) (p : PortId) (bytes : List Byte) (own : Call → State → Check Answer) : State :=
  if s.deaf then s
  else if (s.port p).phase = .pending then s.loseFrame p
  else s.judge g p bytes own

/-- The required level, when it depends on nothing (R145). -/
def always (level : Nat) : State → List Byte → Nat := fun _ _ => level

/-- The outcome of a command that has its effect. -/
abbrev Result := Host.Outcome State Fault Refusal

/-- The outcome of a command whose term may be no command of its row (log 34). -/
def whenWellFormed (i : Instr) (after : State) : Result :=
  if wellFormed i then .next after else .refused .illFormed

/-! ## Marks the checks read -/

/-- A save runs (R158). -/
def State.saveRuns (s : State) : Bool :=
  match s.store.write with
  | .saving _ => true
  | _ => false

/-- A save or a revocation write runs (R136). -/
def State.writeRuns (s : State) : Bool := s.store.write != .idle

/-- The part is READY (R163). -/
def State.isReady (s : State) : Bool := s.store.startUp == .ready

/-- Nothing forbids a change of the credentials: no save, no revocation write, no Ship (R136). -/
def State.slotsOpen (s : State) : Bool := !s.writeRuns && !s.modes.shipping

/-- Nothing forbids a change of the regions or the grid: no save, no Ship (R16, R117). -/
def State.tablesOpen (s : State) : Bool := !s.saveRuns && !s.modes.shipping

/-- The fields of the active profile, if any (R116, R123). -/
def RegionTable.active? (t : RegionTable) : Option Region :=
  match t.profiles.toList.find? (fun p => p.isIn .active) with
  | none => none
  | some p => p.region?

/-- The region code of the pending selection, or absent (R116). -/
def RegionTable.pendingCode? (t : RegionTable) : Option Nat :=
  match t.selection with
  | none => none
  | some i => (t.profiles[i].region?).map (·.code)

/-- The effective bypass (R36). -/
def effectiveBypass (lineBypass viewerBypass : Bool) (active : Option Region) : Bool :=
  lineBypass ||
    (viewerBypass &&
      match active with
      | none => false
      | some r => r.viewerBypass)

/-! ## Resets (R162) -/

/-- The address the Set Port answers at: 0x3C with ADSEL low, 0x3D with it high, sampled at each reset (R167). -/
def sampledAddress (adselHigh : Bool) : BitVec 7 := if adselHigh then 0x3D else 0x3C

/-- The Set Port acknowledges an address (R167): it is powered, RESET_N is released, and the address is the one sampled. -/
def State.acknowledges (s : State) (address : BitVec 7) : Bool := !s.deaf && address == s.pins.address

/-- The frame in progress goes on across a reset, with its size (R27, R113), but is not judged (R97, R109). -/
def Frame.acrossReset (f : Frame) : Frame := { f with begunReady := false }

/-- The frame in progress keeps its internal timing across a reset (R114, fifth event): the reset finds an INTERNAL source
and a signal, or falls within the tail of an earlier such reset. -/
def State.keepsInternalTail (s : State) : Bool :=
  s.timing.internalTail || (s.generator.effective == .internal && s.pins.signal)

/-- The frame timing after a reset (R109, R113, R114). -/
def State.timingAfterReset (s : State) : FrameTiming :=
  { State.reset.timing with
    source := if s.pins.signal && !s.keepsInternalTail then .input else .internal
    frame := s.timing.frame.map Frame.acrossReset
    internalTail := s.keepsInternalTail }

/-- Every piece of volatile state returns to its reset value, and the part enters STARTING (R162). What a reset keeps:
the image, the fuse, the Reopen failure count, the pins, and the frame in progress. A running write is interrupted: the
image is as its beginning left it, INCOMPLETE for a save (R158), the entry REVOKED for a revocation write (R140). The
mode is settled by the fuse (R143). -/
def State.volatileReset (s : State) (startUp : StartUp) : State :=
  { State.reset with
    pending := s.pending
    pins := { s.pins with address := sampledAddress s.pins.adselHigh }
    timing := s.timingAfterReset
    modes :=
      { State.reset.modes with
        mode := if s.modes.fuse then .field else .factory
        fuse := s.modes.fuse
        failures := s.modes.failures }
    store := { State.reset.store with image := s.store.image, startUp := startUp }
    book := { State.reset.book with freeCount := s.book.freeCount } }

/-- The start-up state a reset leaves: the load waits while RESET_N is held asserted (R163). -/
def State.startUpAfterReset (s : State) : StartUp := if s.pins.resetAsserted then .waiting else .loading

/-- The Reopen failure count is lost with the supply (R143, R154), and so is the frame in progress (log 22). -/
def State.coldReset (s : State) (startUp : StartUp) : State :=
  let s' := s.volatileReset startUp
  { s' with
    modes := { s'.modes with failures := 0 }
    timing :=
      { s'.timing with
        source := if s.pins.signal then .input else .internal
        frame := none
        internalTail := false } }

end Sys2Proof.Machine
end

