-- ==== Sys2Proof/Machine/GridOps.lean ====
section
/-! DEFINITION. The Grid Store's records: where they stand, which entries touch them (R6), what each kind of entry does to
them (R7 to R12), and the application of the Update Queue (R43, R44). -/

namespace Sys2Proof.Machine

open Sys2Proof

/-! ## Numbers -/

/-- The quotient n/d (d > 0) rounded to the nearest integer, a tie going to the greater one (R28). -/
def roundDiv (n d : Int) : Int := (2 * n + d) / (2 * d)

/-- Brings a value into lo..hi. -/
def clampInt (lo hi v : Int) : Int := max lo (min hi v)

/-- Saturates a trim into −8192..+8191 (R4). -/
def saturate (v : Int) : Int := clampInt (-8192) 8191 v

/-! ## Records -/

/-- A new record (R5). -/
def KnotRecord.fresh : KnotRecord where
  trim := Rgb.fill 0
  state := .unset
  hits := Rgb.fill 0
  limit := Rgb.fill false
  applied := none

/-- The record of knot (column, row) at a plane, if the collection has one. -/
def GridStore.record? (g : GridStore) (d : Descriptor) (plane row column : Nat) : Option KnotRecord :=
  g.records[d.index plane row column]?

/-- One count of a plane, changed (R13). -/
def StateCounts.change (c : StateCounts) (st : KnotState) (f : Nat → Nat) : StateCounts :=
  match st with
  | .unset => { c with unset := f c.unset }
  | .provisional => { c with provisional := f c.provisional }
  | .tracking => { c with tracking := f c.tracking }
  | .converged => { c with converged := f c.converged }
  | .pinned => { c with pinned := f c.pinned }
  | .retired => { c with retired := f c.retired }

/-- A record moves from one state to another: the old count falls by one and the new one rises by one; a record whose
state does not change leaves them (R13). -/
def StateCounts.move (c : StateCounts) (old new : KnotState) : StateCounts :=
  if old = new then c else (c.change old (· - 1)).change new (· + 1)

/-- A plane's counts at Define Grid (R13). -/
def StateCounts.allUnset (knots : Nat) : StateCounts :=
  { unset := knots, provisional := 0, tracking := 0, converged := 0, pinned := 0, retired := 0 }

/-- A plane's counts from its records (R13). -/
def StateCounts.ofRecords (records : List KnotRecord) : StateCounts where
  unset := records.countP (fun r => r.state == .unset)
  provisional := records.countP (fun r => r.state == .provisional)
  tracking := records.countP (fun r => r.state == .tracking)
  converged := records.countP (fun r => r.state == .converged)
  pinned := records.countP (fun r => r.state == .pinned)
  retired := records.countP (fun r => r.state == .retired)

/-- The per-plane counts of a whole collection (R13). -/
def countsOf (d : Descriptor) (records : List KnotRecord) : List StateCounts :=
  (List.range d.planes).map (fun p => StateCounts.ofRecords ((records.drop (p * d.knots)).take d.knots))

/-! ## Touching (R6) -/

/-- The plane lies in the set. -/
def planeIn (planes : BitVec 8) (plane : Nat) : Bool := planes.getLsbD plane

/-- The knot lies in the rectangle, both corners included. -/
def inRectangle (firstColumn firstRow lastColumn lastRow column row : Nat) : Bool :=
  firstColumn ≤ column && column ≤ lastColumn && firstRow ≤ row && row ≤ lastRow

/-- The entry touches the record of knot (column, row) at a plane (R6). -/
def Entry.touches (e : Entry) (column row plane : Nat) : Bool :=
  match e with
  | .write c r p _ => c == column && r == row && p == plane
  | .adjust c r p _ => c == column && r == row && p == plane
  | .converge c r p .. => c == column && r == row && p == plane
  | .pinArea c0 r0 c1 r1 ps => inRectangle c0 r0 c1 r1 column row && planeIn ps plane
  | .unpinArea c0 r0 c1 r1 ps => inRectangle c0 r0 c1 r1 column row && planeIn ps plane
  | .retire c r => c == column && r == row
  | .restore c r => c == column && r == row

/-- How many waiting entries touch the record (R19). -/
def UpdateQueue.pendingCount (q : UpdateQueue) (column row plane : Nat) : Nat :=
  q.entries.countP (fun e => e.touches column row plane)

/-- A record takes part in direct writes: UNSET, PROVISIONAL, TRACKING or CONVERGED (R7). -/
def KnotState.writable : KnotState → Bool
  | .pinned => false
  | .retired => false
  | _ => true

/-! ## What an entry makes of a record -/

/-- A record after a WRITE entry (R7): the entry's value on its channels, hits 0, PROVISIONAL, the limit set kept. -/
def KnotRecord.written (r : KnotRecord) (values : Rgb (Option Int)) (frame : FrameNumber) : KnotRecord where
  trim := values.map2 (fun v old => v.getD old) r.trim
  state := .provisional
  hits := Rgb.fill 0
  limit := r.limit
  applied := some frame

/-- The trims an ADJUST entry leads to: the applied trim plus the delta, saturated, on its channels (R7). -/
def adjustedTrims (deltas : Rgb (Option Int)) (trim : Rgb Int) : Rgb (Option Int) :=
  deltas.map2 (fun d t => d.map (fun delta => saturate (t + delta))) trim

/-- A record after a PIN_AREA entry (R9). -/
def KnotRecord.pinned (r : KnotRecord) (frame : FrameNumber) : KnotRecord :=
  { r with state := .pinned, applied := some frame }

/-- A record after an UNPIN_AREA entry (R9). -/
def KnotRecord.unpinned (r : KnotRecord) (frame : FrameNumber) : KnotRecord :=
  { r with state := .provisional, hits := Rgb.fill 0, applied := some frame }

/-- A record after a RETIRE entry, with its filled trims (R10). -/
def KnotRecord.retiredWith (_r : KnotRecord) (fill : Rgb Int) (frame : FrameNumber) : KnotRecord where
  trim := fill
  state := .retired
  hits := Rgb.fill 0
  limit := Rgb.fill false
  applied := some frame

/-- A record after a RESTORE entry (R11, R85; log 32). -/
def KnotRecord.restored (r : KnotRecord) (frame : FrameNumber) : KnotRecord where
  trim := r.trim
  state := .provisional
  hits := Rgb.fill 0
  limit := Rgb.fill false
  applied := some frame

/-- A change of trims, state or hits sets the dirty flag (R12). -/
def KnotRecord.differs (old new : KnotRecord) : Bool :=
  old.trim != new.trim || old.state != new.state || old.hits != new.hits

/-! ## Applying entries -/

/-- What an application has made so far: the Grid Store, whether the dirty flag is to be set, and the reply of an Adjust
Knot whose entry was applied. -/
structure Application where
  grid : GridStore
  dirty : Bool
  reply : Option (Status × List Byte)
deriving DecidableEq, Repr

/-- The record at a plane, row and column is changed, its plane's counts follow (R13) and the dirty flag too (R12). A
`change` that answers none leaves the record as it is. -/
def Application.update (a : Application) (d : Descriptor) (plane row column : Nat)
    (change : KnotRecord → Option KnotRecord) : Application :=
  match a.grid.record? d plane row column with
  | none => a
  | some old =>
    match change old with
    | none => a
    | some new =>
      { a with
        grid :=
          { a.grid with
            records := a.grid.records.set (d.index plane row column) new
            counts := a.grid.counts.modify plane (fun c => c.move old.state new.state) }
        dirty := a.dirty || old.differs new }

/-- The neighbours of a knot that exist in the grid (R10). -/
def Descriptor.neighbours (d : Descriptor) (column row : Nat) : List (Nat × Nat) :=
  ((if 0 < column then [(column - 1, row)] else []) ++ [(column + 1, row)] ++
    (if 0 < row then [(column, row - 1)] else []) ++ [(column, row + 1)]).filter
    (fun k => d.holds k.1 k.2)

/-- The trims of a knot's neighbours at a plane that are not RETIRED (R10). -/
def GridStore.fillTrims (g : GridStore) (d : Descriptor) (plane row column : Nat) : List (Rgb Int) :=
  (d.neighbours column row).filterMap (fun k =>
    match g.record? d plane k.2 k.1 with
    | none => none
    | some r => if r.state = .retired then none else some r.trim)

/-- The mean of some trims, rounded with ties toward +∞; 0 of none (R10). -/
def meanTrim (values : List Int) : Int := if values.isEmpty then 0 else roundDiv values.sum values.length

/-- The fill of a retired knot at a plane, channel by channel (R10). -/
def GridStore.fill (g : GridStore) (d : Descriptor) (plane row column : Nat) : Rgb Int :=
  let trims := g.fillTrims d plane row column
  { r := meanTrim (trims.map (·.r)), g := meanTrim (trims.map (·.g)), b := meanTrim (trims.map (·.b)) }

/-- The knot-planes of a rectangle and a plane set, in (plane, row, column) order. -/
def areaOf (d : Descriptor) (firstColumn firstRow lastColumn lastRow : Nat) (planes : BitVec 8) :
    List (Nat × Nat × Nat) :=
  ((List.range d.planes).filter (planeIn planes)).flatMap (fun p =>
    (List.range' firstRow (lastRow + 1 - firstRow)).flatMap (fun r =>
      (List.range' firstColumn (lastColumn + 1 - firstColumn)).map (fun c => (p, r, c))))

/-- What the deferred reply of an Adjust Knot carries for its channels: before and after when the record takes the delta,
the unchanged trim when it does not (R57). -/
def adjustFields (deltas : Rgb (Option Int)) (before : Rgb Int) (changes : Bool) : List Byte :=
  ((deltas.map2 (fun d t =>
      match d with
      | none => []
      | some delta => if changes then s16 t ++ s16 (saturate (t + delta)) else s16 t) before).toList).flatten

/-- The deferred reply of an Adjust Knot whose entry meets a record (R57). -/
def adjustReply (deltas : Rgb (Option Int)) (r : KnotRecord) (frame : FrameNumber) : Status × List Byte :=
  match r.state with
  | .pinned => (.pinned, u32 frame.toNat ++ adjustFields deltas r.trim false)
  | .retired => (.retired, u32 frame.toNat ++ adjustFields deltas r.trim false)
  | _ => (.ok, u32 frame.toNat ++ adjustFields deltas r.trim true)

/-- One entry is applied at the frame start of the given number (R7 to R11). -/
def Application.apply (d : Descriptor) (frame : FrameNumber) (a : Application) (e : Entry) : Application :=
  match e with
  | .write c r p values =>
    match a.grid.record? d p r c with
    | none => a
    | some old =>
      if old.state.writable then a.update d p r c (fun k => some (k.written values frame))
      else { a with grid := { a.grid with writeSkip := bump a.grid.writeSkip } }
  | .adjust c r p deltas =>
    match a.grid.record? d p r c with
    | none => a
    | some old =>
      let a' := { a with reply := some (adjustReply deltas old frame) }
      if old.state.writable then
        a'.update d p r c (fun k => some (k.written (adjustedTrims deltas k.trim) frame))
      else a'
  | .converge c r p trim hits limit st =>
    a.update d p r c (fun _ => some { trim := trim, state := st, hits := hits, limit := limit, applied := some frame })
  | .pinArea c0 r0 c1 r1 ps =>
    (areaOf d c0 r0 c1 r1 ps).foldl
      (fun a k => a.update d k.1 k.2.1 k.2.2
        (fun old => if old.state = .retired then none else some (old.pinned frame))) a
  | .unpinArea c0 r0 c1 r1 ps =>
    (areaOf d c0 r0 c1 r1 ps).foldl
      (fun a k => a.update d k.1 k.2.1 k.2.2
        (fun old => if old.state = .pinned then some (old.unpinned frame) else none)) a
  | .retire c r =>
    (List.range d.planes).foldl
      (fun a p => a.update d p r c (fun old => some (old.retiredWith (a.grid.fill d p r c) frame))) a
  | .restore c r =>
    (List.range d.planes).foldl
      (fun a p => a.update d p r c
        (fun old => if old.state = .retired then some (old.restored frame) else none)) a

/-- Every entry is applied, one after another from the head (R43). Without a descriptor there is no record to apply to
(log 31). -/
def applyEntries (g : GridStore) (frame : FrameNumber) (entries : List Entry) : Application :=
  let start : Application := { grid := g, dirty := false, reply := none }
  match g.descriptor with
  | none => start
  | some d => entries.foldl (Application.apply d frame) start

/-- The application at a frame start: the records, the dirty flag, the deferred reply on the Line Port, the emptied queue,
and ALL_CONVERGED judged again (R43, R44). -/
def State.applyQueue (s : State) (frame : FrameNumber) : State :=
  let a := applyEntries s.grid frame s.queue.entries
  let s1 := { s with grid := a.grid, queue := { s.queue with entries := [] } }
  let s2 := if a.dirty then s1.setDirty else s1
  let s3 :=
    match a.reply with
    | none => s2
    | some (status, fields) => s2.placeReply .line status fields
  s3.judgeConverged

/-! ## Placing entries -/

/-- Entries are placed at the tail, in order (R42). -/
def UpdateQueue.place (q : UpdateQueue) (es : List Entry) : UpdateQueue := { q with entries := q.entries ++ es }

/-- The queue's free space (R40). -/
def UpdateQueue.free (q : UpdateQueue) : Nat := Config.updateCapacity - q.entries.length

/-- The first two checks of every request that edits the grid or feeds it: the shipping indicator is clear, and a grid is
defined (3.4, R69). -/
def checkEditing (s : State) : Check Descriptor := do
  require (!s.modes.shipping) .busy
  requireSome s.grid.descriptor .noGrid

/-! ## Defining the grid -/

/-- The Grid Store of a newly defined grid (R17): every record UNSET, the counts as R13 gives, the write-skip count 0. The
value of ALL_CONVERGED last judged is kept until it is judged again. -/
def GridStore.define (g : GridStore) (d : Descriptor) : GridStore where
  descriptor := some d
  records := List.replicate d.triples KnotRecord.fresh
  counts := List.replicate d.planes (StateCounts.allUnset d.knots)
  writeSkip := 0
  allConverged := g.allConverged

end Sys2Proof.Machine
end

