-- ==== Sys2Proof/Machine/ConvergenceRequests.lean ====
section
/-! DEFINITION. SET_TARGETS, SET_CONVERGENCE, SUBMIT_READINGS, READ_CONVERGENCE, EXAMINE_READING and the arithmetic of the
convergence loop (chapter 4). -/

namespace Sys2Proof.Machine

open Sys2Proof

/-! ## Targets and loop parameters -/

/-- The owning block of Set Targets (R65). -/
def ownSetTargets (c : Call) (s : State) : Check Answer := do
  let (plane, bytes) ← read8 c.payload
  let (r, bytes) ← read16 bytes
  let (g, bytes) ← read16 bytes
  let (b, _) ← read16 bytes
  require (!s.modes.shipping) .busy
  let d ← requireSome s.grid.descriptor .noGrid
  require (plane < d.planes) .badValue
  let p ← requireSome (index? 8 plane) .badValue
  return .reply .ok (u8 plane ++ u16 r ++ u16 g ++ u16 b)
    { s with conv := { s.conv with targets := s.conv.targets.set p { r := r, g := g, b := b } } }

/-- SET_TARGETS (R65). -/
def execSetTargets (p : PortId) (bytes : List Byte) (s : State) : Result :=
  .next (s.serve { length := some 7, level := always 1 } p bytes ownSetTargets)

/-- A number brought into lo..hi. -/
def clampNat (lo hi n : Nat) : Nat := max lo (min hi n)

/-- Loop parameters brought into their ranges (R66, R67). -/
def LoopParameters.clamp (l : LoopParameters) : LoopParameters where
  coefficient := clampNat 1 256 l.coefficient
  stepLimit := clampNat 1 8191 l.stepLimit
  tolerance := clampNat 1 255 l.tolerance
  settleCount := clampNat 1 15 l.settleCount

/-- The four parameters at the widths R67 gives them. -/
def LoopParameters.bytes (l : LoopParameters) : List Byte :=
  u16 l.coefficient ++ u16 l.stepLimit ++ u16 l.tolerance ++ u8 l.settleCount

/-- The owning block of Set Convergence (R67). -/
def ownSetConvergence (c : Call) (s : State) : Check Answer := do
  let (k, bytes) ← read16 c.payload
  let (stepLimit, bytes) ← read16 bytes
  let (tolerance, bytes) ← read16 bytes
  let (settle, _) ← read8 bytes
  require (!s.modes.shipping) .busy
  let l := ({ coefficient := k, stepLimit := stepLimit, tolerance := tolerance, settleCount := settle } :
    LoopParameters).clamp
  return .reply .ok l.bytes { s with conv := { s.conv with parameters := l } }

/-- SET_CONVERGENCE (R67). -/
def execSetConvergence (p : PortId) (bytes : List Byte) (s : State) : Result :=
  .next (s.serve { length := some 7, level := always 1 } p bytes ownSetConvergence)

/-! ## Submit Readings -/

/-- One reading as a batch carries it (R68). -/
structure RawReading where
  column : Nat
  row : Nat
  channels : ChannelSet
  luminances : Rgb (Option Nat)
deriving DecidableEq, Repr

/-- A batch: pattern tag, plane and readings (R68). -/
structure Batch where
  tag : Nat
  plane : Nat
  readings : List RawReading
deriving DecidableEq, Repr

/-- The readings of a batch, read in order (R68, R69). -/
def readReadings : Nat → List Byte → Check (List RawReading × List Byte)
  | 0, bytes => .ok ([], bytes)
  | n + 1, bytes => do
    let (column, bytes) ← read16 bytes
    let (row, bytes) ← read16 bytes
    let (number, bytes) ← read8 bytes
    let channels ← requireSome (channelSet? number) .badValue
    let (luminances, bytes) ← readChannels read16 channels bytes
    let (more, bytes) ← readReadings n bytes
    return ({ column := column, row := row, channels := channels, luminances := luminances } :: more, bytes)

/-- The checks of R69 on the payload itself: BAD_VALUE and BAD_LENGTH. -/
def readBatch (d : Descriptor) (payload : List Byte) : Check Batch := do
  let (tag, payload) ← read8 payload
  let (plane, payload) ← read8 payload
  require (plane < d.planes) .badValue
  let (count, payload) ← read8 payload
  require (1 ≤ count && count ≤ 16) .badValue
  let (readings, rest) ← readReadings count payload
  require rest.isEmpty .badLength
  return { tag := tag, plane := plane, readings := readings }

/-- A check made reading by reading: the refusal carries the index of the first reading that fails it (R69). -/
def requireEach (readings : List RawReading) (status : Status) (holds : RawReading → Bool) : Check Unit :=
  match readings.findIdx? (fun r => !holds r) with
  | none => .ok ()
  | some i => .error (status, u8 i)

/-- The held pattern's fields, when a pattern is held (R70). -/
def Detection.heldPattern? : Detection → Option Pattern
  | .held pattern _ _ => some pattern
  | _ => .none

/-- The targets of a plane (R64). -/
def ConvergenceUnit.target (u : ConvergenceUnit) (plane : Nat) : Rgb Nat :=
  match index? 8 plane with
  | none => Rgb.fill 0
  | some p => u.targets[p]

/-- The checks of Submit Readings, in their order (R69). -/
def checkSubmitReadings (payload : List Byte) (s : State) : Check Batch := do
  let d ← checkEditing s
  let b ← readBatch d payload
  let held ← requireSome s.detector.state.heldPattern? .stalePattern
  require (held.tag == b.tag && held.kind == .flat) .stalePattern
  require (d.levels[b.plane]? == some held.level) .levelMismatch
  requireEach b.readings .levelMismatch (fun r => channelsWithin r.channels held.channels)
  requireEach b.readings .noTarget
    (fun r => ((r.channels.map2 (fun c t => !c || t != 0) (s.conv.target b.plane)).toList).all id)
  requireEach b.readings .outOfGrid (fun r => d.holds r.column r.row)
  require (b.readings.length ≤ Config.readingCapacity - s.conv.readings.length) .queueFull
  return b

/-- A reading as it joins the queue: with its targets and its intake frame (R71). -/
def stamp (plane : Nat) (targets : Rgb Nat) (intake : FrameNumber) (r : RawReading) : Reading where
  column := r.column
  row := r.row
  plane := plane
  values := r.luminances.map2 (fun m t => m.map (fun x => { luminance := x, target := t })) targets
  intake := intake

/-- The readings of a batch join the tail of the Measurement Queue; MQ_LIMIT attention is raised when the condition turns
true (R71, R74). -/
def State.intake (s : State) (b : Batch) : State :=
  let added := b.readings.map (stamp b.plane (s.conv.target b.plane) s.timing.number)
  let s' := { s with conv := { s.conv with readings := s.conv.readings ++ added } }
  s'.raiseIf (mqLimit s'.conv.readings.length && !mqLimit s.conv.readings.length) .mqLimit

/-- The owning block of Submit Readings (R69, R71). -/
def ownSubmitReadings (c : Call) (s : State) : Check Answer := do
  let b ← checkSubmitReadings c.payload s
  let s' := s.intake b
  return .reply .ok (u8 b.readings.length ++ u32 s.timing.number.toNat ++ u8 s'.conv.readings.length) s'

/-- SUBMIT_READINGS (R69, R71). -/
def execSubmitReadings (p : PortId) (bytes : List Byte) (s : State) : Result :=
  .next (s.serve { length := none, level := always 1 } p bytes ownSubmitReadings)

/-! ## Read Convergence -/

/-- The payload of Read Convergence (R87). -/
def convergencePayload (u : ConvergenceUnit) : List Byte :=
  u8 u.readings.length ++ truthByte .mqLimit (mqLimit u.readings.length) ++
    u16 u.processed ++ u16 u.stale ++ u16 u.ignored ++ u.parameters.bytes ++
    u.targets.toList.flatMap (fun t => t.toList.flatMap u16)

/-- The owning block of Read Convergence: once the reply is assembled the three counts are set to 0 (R81, R87). -/
def ownReadConvergence (_ : Call) (s : State) : Check Answer :=
  .ok (.reply .ok (convergencePayload s.conv)
    { s with conv := { s.conv with processed := 0, stale := 0, ignored := 0 } })

/-- READ_CONVERGENCE (R87). -/
def execReadConvergence (p : PortId) (bytes : List Byte) (s : State) : Result :=
  .next (s.serve { length := some 0, level := always 2 } p bytes ownReadConvergence)

/-! ## The arithmetic of convergence (4.5) -/

/-- The target trim before clamping, for a luminance above 0 (R83). -/
def rawTargetTrim (t : Int) (m : Measurement) : Int :=
  roundDiv ((32768 + t) * m.target) m.luminance - 32768

/-- The target trim and whether the channel belongs to the limit set (R83). -/
def targetTrim (t : Int) (m : Measurement) : Int × Bool :=
  if m.luminance = 0 then (8191, true)
  else (saturate (rawTargetTrim t m), saturate (rawTargetTrim t m) != rawTargetTrim t m)

/-- The new trim: a fraction of the way to the target trim, within the step limit (R84). -/
def newTrim (l : LoopParameters) (t target : Int) : Int :=
  t + clampInt (-l.stepLimit) l.stepLimit (roundDiv ((target - t) * l.coefficient) 256)

/-- The channel is in tolerance (R85). -/
def inTolerance (l : LoopParameters) (m : Measurement) : Bool :=
  ((m.target : Int) - m.luminance).natAbs * 1024 ≤ l.tolerance * m.target

/-- The new hit count (R85). -/
def newHits (l : LoopParameters) (hits : Nat) (m : Measurement) : Nat :=
  if inTolerance l m then (if hits < 15 then hits + 1 else 15) else 0

/-- One channel of a CONVERGE entry: trim, hits, membership of the limit set. -/
structure ChannelOutcome where
  trim : Int
  hits : Nat
  limited : Bool
deriving DecidableEq, Repr

/-- A channel of a processed reading (R83 to R86): computed when present, as applied when absent. -/
def convergeChannel (l : LoopParameters) (t : Int) (hits : Nat) (limited : Bool) : Option Measurement → ChannelOutcome
  | none => { trim := t, hits := hits, limited := limited }
  | some m =>
    { trim := newTrim l t (targetTrim t m).1, hits := newHits l hits m, limited := (targetTrim t m).2 }

/-- The three channels of a processed reading. -/
def convergeRecord (l : LoopParameters) (r : KnotRecord) (v : Rgb (Option Measurement)) : Rgb ChannelOutcome where
  r := convergeChannel l r.trim.r r.hits.r r.limit.r v.r
  g := convergeChannel l r.trim.g r.hits.g r.limit.g v.g
  b := convergeChannel l r.trim.b r.hits.b r.limit.b v.b

/-- The state a CONVERGE entry carries (R8, R86). -/
def carriedState (settleCount : Nat) (hits : Rgb Nat) : KnotState :=
  if (hits.toList).all (settleCount ≤ ·) then .converged else .tracking

/-- The CONVERGE entry of a processed reading (R86). -/
def convergeEntry (l : LoopParameters) (rec : KnotRecord) (q : Reading) : Entry :=
  let o := convergeRecord l rec q.values
  .converge q.column q.row q.plane (o.map (·.trim)) (o.map (·.hits)) (o.map (·.limited))
    (carriedState l.settleCount (o.map (·.hits)))

/-- A target trim of the reading was clamped (R78). -/
def readingClamped (rec : KnotRecord) (v : Rgb (Option Measurement)) : Bool :=
  ((v.map2 (fun m t => (m.map (fun m => (targetTrim t m).2)).getD false) rec.trim).toList).any id

/-! ## Examination (4.4) -/

/-- Frame `a` is later than frame `i`, judged modulo 2^32 (R76). -/
def later (a i : FrameNumber) : Bool := a != i && (a - i).toNat < 2 ^ 31

/-- The reading is stale: a waiting entry touches its record, or the record was applied after its intake (R76). -/
def readingStale (entries : List Entry) (rec : KnotRecord) (q : Reading) : Bool :=
  entries.any (fun e => e.touches q.column q.row q.plane) ||
    match rec.applied with
    | none => false
    | some a => later a q.intake

/-- The examination of the head reading `q`, with the other readings `rest` and the record it names (R76, R77, R78). -/
def State.examineHead (s : State) (q : Reading) (rest : List Reading) (rec : KnotRecord) : State :=
  let u := { s.conv with readings := rest }
  if readingStale s.queue.entries rec q then
    ({ s with conv := { u with stale := bump u.stale } }).raiseIf true .stale
  else if !rec.state.writable then { s with conv := { u with ignored := bump u.ignored } }
  else
    ({ s with
        conv := { u with processed := bump u.processed }
        queue := s.queue.place [convergeEntry s.conv.parameters rec q] }).raiseIf
      (readingClamped rec q.values) .trimLimit

/-- An examination, when there is a reading and a free entry; else the unit waits and examines nothing (R75). -/
def State.examine (s : State) : State :=
  match s.conv.readings with
  | [] => s
  | q :: rest =>
    if s.queue.free = 0 then s
    else
      match s.grid.descriptor with
      | none => s
      | some d =>
        match s.grid.record? d q.plane q.row q.column with
        | none => s
        | some rec => s.examineHead q rest rec

/-- EXAMINE_READING (R75). -/
def execExamineReading (s : State) : Result := .next (if s.pins.supply then s.examine else s)

end Sys2Proof.Machine
end

