-- ==== Sys2Proof/Machine/RegionRequests.lean ====
section
/-! DEFINITION. STORE_REGION, LOOK_UP_REGION, SELECT_REGION, RETIRE_REGION, ERASE_REGION, READ_REGIONS (6.2), and the taking
effect of a selection (R120). -/

namespace Sys2Proof.Machine

open Sys2Proof

/-- The region code is 1..999 (R116). -/
def codeInRange (code : Nat) : Bool := 1 ≤ code && code ≤ 999

/-- The least index whose profile carries the code (R116, R118). -/
def RegionTable.find? (t : RegionTable) (code : Nat) : Option (Fin 8) := findIndex? t.profiles (fun p => p.carries code)

/-- A profile is replaced. -/
def RegionTable.put (t : RegionTable) (i : Fin 8) (p : Profile) : RegionTable :=
  { t with profiles := t.profiles.set i p }

/-- The Region Table is replaced and the dirty flag set (R161). -/
def State.withRegions (s : State) (t : RegionTable) : State := { s with regions := t }.setDirty

/-- A non-EMPTY profile at another index carries the code (R117). -/
def RegionTable.carriedElsewhere (t : RegionTable) (i : Fin 8) (code : Nat) : Bool :=
  (List.finRange 8).any (fun j => j != i && t.profiles[j].carries code)

/-- The checks of Store Region, in their order (R117): the index, and the region with its ceiling brought into 512..1023. -/
def checkStoreRegion (payload : List Byte) (s : State) : Check (Fin 8 × Region) := do
  let (index, payload) ← read8 payload
  let (code, payload) ← read16 payload
  let (familyNumber, payload) ← read8 payload
  let (ceiling, payload) ← read16 payload
  let (allowance, payload) ← read8 payload
  let (flag, _) ← read8 payload
  let i ← requireSome (index? 8 index) .badValue
  require (codeInRange code) .badValue
  let family ← requireSome (family? familyNumber) .badValue
  require (allowance ≤ 3 && flag ≤ 1) .badValue
  require s.tablesOpen .busy
  require (!s.regions.profiles[i].isIn .active) .active
  require (s.regions.selection != some i) .selected
  require (!s.regions.profiles[i].isIn .retired) .retired
  require (!s.regions.carriedElsewhere i code) .duplicate
  return (i, { code := code, family := family, ceiling := clampNat 512 1023 ceiling,
               allowsContent := allowance.testBit 0, allowsPlatform := allowance.testBit 1,
               viewerBypass := flag == 0 })

/-- The owning block of Store Region (R117). -/
def ownStoreRegion (c : Call) (s : State) : Check Answer := do
  let (i, region) ← checkStoreRegion c.payload s
  return .reply .ok (Profile.held .stored region).bytes (s.withRegions (s.regions.put i (.held .stored region)))

/-- STORE_REGION (R117). -/
def execStoreRegion (p : PortId) (bytes : List Byte) (s : State) : Result :=
  .next (s.serve { length := some 8, level := always 0 } p bytes ownStoreRegion)

/-- The owning block of Look Up Region (R118). -/
def ownLookUpRegion (c : Call) (s : State) : Check Answer := do
  let (code, _) ← read16 c.payload
  require (codeInRange code) .badValue
  let i ← requireSome (s.regions.find? code) .notFound
  return .reply .ok
    (u8 i ++ s.regions.profiles[i].bytes ++ truthByte .lookUpPending (s.regions.selection == some i)) s

/-- LOOK_UP_REGION (R118). -/
def execLookUpRegion (p : PortId) (bytes : List Byte) (s : State) : Result :=
  .next (s.serve { length := some 2, level := always 2 } p bytes ownLookUpRegion)

/-- The owning block of Read Regions (R118). -/
def ownReadRegions (_ : Call) (s : State) : Check Answer :=
  .ok (.reply .ok
    (s.regions.profiles.toList.flatMap Profile.bytes ++ optional (fun i : Fin 8 => u8 i) s.regions.selection) s)

/-- READ_REGIONS (R118). -/
def execReadRegions (p : PortId) (bytes : List Byte) (s : State) : Result :=
  .next (s.serve { length := some 0, level := always 2 } p bytes ownReadRegions)

/-- The Region Table after a Select Region names the profile at an index: an ACTIVE profile changes nothing, a STORED one
becomes the pending selection (R119). -/
def RegionTable.select (t : RegionTable) (i : Fin 8) : RegionTable :=
  if t.profiles[i].isIn .active then t else { t with selection := some i }

/-- The owning block of Select Region (R119). -/
def ownSelectRegion (c : Call) (s : State) : Check Answer := do
  let (code, _) ← read16 c.payload
  require (codeInRange code) .badValue
  require s.tablesOpen .busy
  let i ← requireSome (s.regions.find? code) .notFound
  require (!s.regions.profiles[i].isIn .retired) .retired
  let t := s.regions.select i
  return .reply .ok (optional u16 (t.active?.map (·.code)) ++ optional u16 t.pendingCode?) { s with regions := t }

/-- SELECT_REGION (R119). -/
def execSelectRegion (p : PortId) (bytes : List Byte) (s : State) : Result :=
  .next (s.serve { length := some 2, level := always 1 } p bytes ownSelectRegion)

/-- A profile moved to another state, its fields kept. -/
def Profile.moveTo (p : Profile) (st : ProfileState) : Profile :=
  match p with
  | .empty => .empty
  | .held _ r => .held st r

/-- The owning block of Retire Region (R121). -/
def ownRetireRegion (c : Call) (s : State) : Check Answer := do
  let (code, _) ← read16 c.payload
  require (codeInRange code) .badValue
  require s.tablesOpen .busy
  let i ← requireSome (s.regions.find? code) .notFound
  require (!s.regions.profiles[i].isIn .active) .active
  require (s.regions.selection != some i) .selected
  require (!s.regions.profiles[i].isIn .retired) .retired
  return .reply .ok (u8 i ++ u16 code) (s.withRegions (s.regions.put i (s.regions.profiles[i].moveTo .retired)))

/-- RETIRE_REGION (R121). -/
def execRetireRegion (p : PortId) (bytes : List Byte) (s : State) : Result :=
  .next (s.serve { length := some 2, level := always 0 } p bytes ownRetireRegion)

/-- The owning block of Erase Region: a STORED or RETIRED profile becomes EMPTY; an EMPTY one is left, and the dirty flag
with it (R122). -/
def ownEraseRegion (c : Call) (s : State) : Check Answer := do
  let (index, _) ← read8 c.payload
  let i ← requireSome (index? 8 index) .badValue
  require s.tablesOpen .busy
  require (!s.regions.profiles[i].isIn .active) .active
  require (s.regions.selection != some i) .selected
  return .reply .ok (u8 i)
    (if s.regions.profiles[i] = .empty then s else s.withRegions (s.regions.put i .empty))

/-- ERASE_REGION (R122). -/
def execEraseRegion (p : PortId) (bytes : List Byte) (s : State) : Result :=
  .next (s.serve { length := some 1, level := always 0 } p bytes ownEraseRegion)

/-! ## A selection takes effect (R120) -/

/-- The former ACTIVE profile as it becomes STORED (R120). -/
def Profile.demote (p : Profile) : Profile := if p.isIn .active then p.moveTo .stored else p

/-- The Region Table once a pending selection, if any, has taken effect (R120). -/
def RegionTable.takeEffect (t : RegionTable) : RegionTable :=
  match t.selection with
  | none => t
  | some i =>
    { profiles := (mapTable Profile.demote t.profiles).set i (t.profiles[i].moveTo .active), selection := none }

/-- A pending selection takes effect: the dirty flag is set and REGION attention raised (R120). -/
def State.takeSelection (s : State) : State :=
  match s.regions.selection with
  | none => s
  | some _ => (s.withRegions s.regions.takeEffect).raiseIf true .region

end Sys2Proof.Machine
end

