-- ==== Sys2Proof/Machine/ImageOps.lean ====
section
/-! DEFINITION. The nonvolatile image: what a save takes (R156, R158), the first part of a revocation write (R140), the
start-up load (R21, R124, R142, R164). -/

namespace Sys2Proof.Machine

open Sys2Proof

/-! ## Saving -/

/-- A slot as a save writes it: a LOADING slot is written as EMPTY (R156). -/
def Slot.saved : Slot → Slot
  | .loading .. => .empty
  | s => s

/-- A record as a save writes it: its trims and its state (R156). -/
def KnotRecord.saved (r : KnotRecord) : SavedRecord := { trim := r.trim, state := r.state }

/-- The contents a save takes (R156, R158). -/
def State.contents (s : State) : ImageContents where
  grid := s.grid.descriptor.map (fun d => (d, s.grid.records.map KnotRecord.saved))
  profiles := s.regions.profiles
  slots := mapTable Slot.saved s.creds.slots

/-- A save begins: SAVE_RUNNING with the contents as they stand, and the completion mark erased (R158). -/
def State.beginSave (s : State) : State :=
  { s with store := { s.store with image := .incomplete, write := .saving s.contents } }

/-! ## Revocation writes -/

/-- An image entry after the first part of a revocation write: its state is REVOKED (R140). An entry that was saved EMPTY
holds no class, length or check value until the second part writes them: free values (log 16). Any other entry keeps the
class, declared length and check value the image holds until the write ends OK, even where the slot has been loaded anew
since the save: which of the two an interruption within the second part leaves is the model's choice (log 42). -/
def Slot.markRevoked (draw : Nat) : Slot → Slot
  | .empty =>
    .revoked (if Config.freeSlotIsContent draw then .content else .platform)
      (16 * ((Config.freeSlotLength draw).toNat + 1)) (Config.freeSlotCheck draw)
  | .loading c n _ => .revoked c n (Config.freeSlotCheck draw)
  | .loaded c n _ k => .revoked c n k
  | .bound c n _ k => .revoked c n k
  | .revoked c n k => .revoked c n k

/-- One slot of an image's contents is replaced. -/
def ImageContents.putSlot (c : ImageContents) (i : Fin 16) (slot : Slot) : ImageContents :=
  { c with slots := c.slots.set i slot }

/-- The revocation write begins: its first part is taken with the Revoke Slot itself (R140). -/
def State.beginRevocation (s : State) (c : ImageContents) (p : PortId) (i : Fin 16) : State :=
  { s with
    store :=
      { s.store with
        image := .complete (c.putSlot i (c.slots[i].markRevoked s.book.freeCount))
        write := .revoking p i }
    book := { s.book with freeCount := s.book.freeCount + 1 } }

/-! ## The start-up load -/

/-- A record as the load restores it: hits 0, limit set empty, applied frame absent (R21). -/
def SavedRecord.restored (r : SavedRecord) : KnotRecord where
  trim := r.trim
  state := r.state
  hits := Rgb.fill 0
  limit := Rgb.fill false
  applied := none

/-- The Grid Store restored from an image (R21): the counts are computed, and ALL_CONVERGED may be found true (R15). -/
def restoredGrid : Option (Descriptor × List SavedRecord) → GridStore
  | none => State.reset.grid
  | some (d, saved) =>
    let records := saved.map SavedRecord.restored
    let g : GridStore :=
      { descriptor := some d, records := records, counts := countsOf d records, writeSkip := 0, allConverged := false }
    { g with allConverged := g.judge }

/-- The start-up load completes: a COMPLETE image is loaded whole, any other not at all; an INCOMPLETE one raises STORE
attention; the part becomes READY (R164). -/
def State.completeLoad (s : State) : State :=
  let s' := { s with store := { s.store with startUp := .ready } }
  match s.store.image with
  | .blank => s'
  | .incomplete => s'.raiseIf true .store
  | .complete c =>
    { s' with
      grid := restoredGrid c.grid
      regions := { profiles := c.profiles, selection := none }
      creds := { slots := mapTable Slot.saved c.slots, loading := none } }

/-- START_UP_LOAD_COMPLETION (R164): the load completes, when it runs (log 2). -/
def execStartUpLoadCompletion (s : State) : Result :=
  .next (if s.pins.supply ∧ s.store.startUp = .loading then s.completeLoad else s)

end Sys2Proof.Machine
end

