-- ==== Sys2Proof/Machine/CredentialRequests.lean ====
section
/-! DEFINITION. BEGIN_LOAD, LOAD_CHUNK, END_LOAD, ABORT_LOAD, READ_SLOT, FETCH_KEY, REVOKE_SLOT, ERASE_SLOT,
REVOCATION_WRITE_COMPLETION, and the check value (chapter 7). -/

namespace Sys2Proof.Machine

open Sys2Proof

/-! ## The check value (R128) -/

/-- The register shifted a number of times, one place each time towards its least significant end (R128, step 3). -/
def crcShift : Nat → CheckValue → CheckValue
  | 0, r => r
  | n + 1, r => crcShift n (if r.getLsbD 0 then (r >>> 1) ^^^ 0xEDB88320 else r >>> 1)

/-- One data byte is taken into the register (R128, steps 2 and 3). -/
def crcByte (r : CheckValue) (b : Byte) : CheckValue := crcShift 8 (r ^^^ b.setWidth 32)

/-- The check value of some data (R128). -/
def checkValue (data : List Byte) : CheckValue := ~~~ data.foldl crcByte (BitVec.allOnes 32)

/-! ## Slots -/

/-- A slot is replaced. -/
def CredentialTable.put (t : CredentialTable) (i : Fin 16) (slot : Slot) : CredentialTable :=
  { t with slots := t.slots.set i slot }

/-- A slot is replaced and the loading context becomes idle. -/
def CredentialTable.finish (t : CredentialTable) (i : Fin 16) (slot : Slot) : CredentialTable :=
  { slots := t.slots.set i slot, loading := none }

/-- A slot other than `i` has class SERVICE (R126, R130). -/
def CredentialTable.serviceElsewhere (t : CredentialTable) (i : Fin 16) : Bool :=
  (List.finRange 16).any (fun j => j != i && t.slots[j].class? == some .service)

/-- The slot is EMPTY. -/
def Slot.isEmpty : Slot → Bool
  | .empty => true
  | _ => false

/-- The slot is LOADING. -/
def Slot.isLoading : Slot → Bool
  | .loading .. => true
  | _ => false

/-- The slot is REVOKED. -/
def Slot.isRevoked : Slot → Bool
  | .revoked .. => true
  | _ => false

/-- Class, declared length and data of a LOADING slot. -/
def Slot.loading? : Slot → Option (KeyClass × Nat × List Byte)
  | .loading c n d => some (c, n, d)
  | _ => none

/-- The required level of Begin Load: 0 when its class field names SERVICE (R129). -/
def beginLevel (_ : State) : List Byte → Nat
  | _ :: class_ :: _ => if keyClass? class_.toNat = some .service then 0 else 1
  | _ => 1

/-- The required level of Load Chunk, End Load and Abort Load: 0 when the slot they name is LOADING with class SERVICE
(R129). -/
def loadLevel (s : State) : List Byte → Nat
  | slot :: _ =>
    match index? 16 slot.toNat with
    | none => 1
    | some i => if s.creds.slots[i].isLoading ∧ s.creds.slots[i].class? = some .service then 0 else 1
  | [] => 1

/-! ## Loading a key -/

/-- The checks of Begin Load, in their order (R130). -/
def checkBeginLoad (payload : List Byte) (s : State) : Check (Fin 16 × KeyClass × Nat) := do
  let (slot, payload) ← read8 payload
  let (classNumber, payload) ← read8 payload
  let (declared, _) ← read16 payload
  let i ← requireSome (index? 16 slot) .badValue
  let class_ ← requireSome (keyClass? classNumber) .badValue
  require (16 ≤ declared && declared ≤ 1024 && declared % 16 == 0 && (class_ != .service || declared == 32)) .badValue
  require (s.modes.mode == .factory || (s.modes.mode == .service && class_ != .service)) .mode
  require (s.creds.loading.isNone && s.slotsOpen) .busy
  require (s.creds.slots[i].isEmpty || (s.modes.mode == .service && s.creds.slots[i].isRevoked)) .slotState
  require (class_ != .service || !s.creds.serviceElsewhere i) .duplicate
  return (i, class_, declared)

/-- The Credential Table once a load has begun (R131). -/
def CredentialTable.begin (t : CredentialTable) (i : Fin 16) (class_ : KeyClass) (declared : Nat) : CredentialTable :=
  { slots := t.slots.set i (.loading class_ declared []), loading := some { slot := i, gap := 0 } }

/-- The owning block of Begin Load (R130, R131). -/
def ownBeginLoad (c : Call) (s : State) : Check Answer := do
  let (i, class_, declared) ← checkBeginLoad c.payload s
  return .reply .ok (u8 i ++ u8 class_.number ++ u16 declared) { s with creds := s.creds.begin i class_ declared }

/-- BEGIN_LOAD (R130, R131). -/
def execBeginLoad (p : PortId) (bytes : List Byte) (s : State) : Result :=
  .next (s.serve { length := some 4, level := beginLevel } p bytes ownBeginLoad)

/-- The owning block of Load Chunk (R132). A payload too short to hold a chunk fails the first check (log 12). -/
def ownLoadChunk (c : Call) (s : State) : Check Answer :=
  match c.payload with
  | slot :: lo :: hi :: data => do
    let i ← requireSome (index? 16 slot.toNat) .badValue
    require (1 ≤ data.length && data.length ≤ 64) .badValue
    require s.slotsOpen .busy
    let (class_, declared, received) ← requireSome s.creds.slots[i].loading? .slotState
    require (nat16 lo hi == received.length) .outOfOrder (u16 received.length ++ u16 declared)
    require (received.length + data.length ≤ declared) .badValue (u16 received.length ++ u16 declared)
    return .reply .ok (u16 (received.length + data.length) ++ u16 declared)
      { s with
        creds :=
          { slots := s.creds.slots.set i (.loading class_ declared (received ++ data))
            loading := some { slot := i, gap := 0 } } }
  | _ => .error (.badValue, [])

/-- LOAD_CHUNK (R132). -/
def execLoadChunk (p : PortId) (bytes : List Byte) (s : State) : Result :=
  .next (s.serve { length := none, level := loadLevel } p bytes ownLoadChunk)

/-- The slot and the expected check value of an End Load: two bytes without it, six with it (R134, R170; log 13). -/
def readEndLoad : List Byte → Check (Nat × Option CheckValue)
  | [slot, presence] => if presence = 0 then .ok (slot.toNat, none) else .error (.badLength, [])
  | [slot, presence, a, b, c, d] =>
    if presence = 1 then .ok (slot.toNat, some (check32 a b c d)) else .error (.badLength, [])
  | _ => .error (.badLength, [])

/-- The owning block of End Load (R134). -/
def ownEndLoad (c : Call) (s : State) : Check Answer := do
  let (slot, expected) ← readEndLoad c.payload
  let i ← requireSome (index? 16 slot) .badValue
  require s.slotsOpen .busy
  let (class_, declared, data) ← requireSome s.creds.slots[i].loading? .slotState
  require (data.length == declared) .badLength (u16 data.length ++ u16 declared)
  let computed := checkValue data
  if expected.isSome && expected != some computed then
    return .reply .checkMismatch (u32 computed.toNat) { s with creds := s.creds.finish i .empty }
  else
    return .reply .ok (u8 i ++ u8 class_.number ++ u16 declared ++ u32 computed.toNat)
      { s with creds := s.creds.finish i (.loaded class_ declared data computed) }.setDirty

/-- END_LOAD (R134). -/
def execEndLoad (p : PortId) (bytes : List Byte) (s : State) : Result :=
  .next (s.serve { length := none, level := loadLevel } p bytes ownEndLoad)

/-- The owning block of Abort Load (R135). -/
def ownAbortLoad (c : Call) (s : State) : Check Answer := do
  let (slot, _) ← read8 c.payload
  let i ← requireSome (index? 16 slot) .badValue
  require s.slotsOpen .busy
  require s.creds.slots[i].isLoading .slotState
  return .reply .ok [] { s with creds := s.creds.finish i .empty }

/-- ABORT_LOAD (R135). -/
def execAbortLoad (p : PortId) (bytes : List Byte) (s : State) : Result :=
  .next (s.serve { length := some 1, level := loadLevel } p bytes ownAbortLoad)

/-! ## Reading and delivering keys -/

/-- The owning block of Read Slot (R137). -/
def ownReadSlot (c : Call) (s : State) : Check Answer := do
  let (slot, _) ← read8 c.payload
  let i ← requireSome (index? 16 slot) .badValue
  return .reply .ok (u8 i ++ s.creds.slots[i].report) s

/-- READ_SLOT (R137). -/
def execReadSlot (p : PortId) (bytes : List Byte) (s : State) : Result :=
  .next (s.serve { length := some 1, level := always 2 } p bytes ownReadSlot)

/-- Class, declared length and data of a BOUND slot of class CONTENT or PLATFORM (R138). -/
def Slot.deliverable? : Slot → Option (KeyClass × Nat × List Byte)
  | .bound c n d _ => if c = .service then none else some (c, n, d)
  | _ => none

/-- The key class lies in the active profile's allowance; with no ACTIVE profile the allowance is empty (R123). -/
def allowed (active : Option Region) (c : KeyClass) : Bool :=
  match active with
  | none => false
  | some r =>
    match c with
    | .content => r.allowsContent
    | .platform => r.allowsPlatform
    | .service => false

/-- The owning block of Fetch Key (R138). -/
def ownFetchKey (c : Call) (s : State) : Check Answer := do
  let (slot, bytes) ← read8 c.payload
  let (offset, _) ← read16 bytes
  require (c.port == .set) .notAllowed
  let i ← requireSome (index? 16 slot) .badValue
  require (s.modes.mode != .factory) .mode
  let (class_, declared, data) ← requireSome s.creds.slots[i].deliverable? .slotState
  require (allowed s.regions.active? class_) .notAllowed
  require (offset < declared) .badValue
  return .reply .ok (u8 i ++ u16 offset ++ (data.drop offset).take (min 64 (declared - offset))) s

/-- FETCH_KEY (R138). -/
def execFetchKey (p : PortId) (bytes : List Byte) (s : State) : Result :=
  .next (s.serve { length := some 3, level := always 2 } p bytes ownFetchKey)

/-! ## Revoking and erasing -/

/-- Class, declared length and check value of a LOADED or BOUND slot (R139). -/
def Slot.revocable? : Slot → Option (KeyClass × Nat × CheckValue)
  | .loaded c n _ k => some (c, n, k)
  | .bound c n _ k => some (c, n, k)
  | _ => none

/-- The owning block of Revoke Slot: the slot is REVOKED at once; with a COMPLETE image the revocation write begins and the
port waits, else the reply is OK at once (R139). -/
def ownRevokeSlot (c : Call) (s : State) : Check Answer := do
  let (slot, _) ← read8 c.payload
  let i ← requireSome (index? 16 slot) .badValue
  require s.slotsOpen .busy
  require (s.creds.slots[i].class? != some .service) .notAllowed
  let (class_, declared, check) ← requireSome s.creds.slots[i].revocable? .slotState
  let s' := { s with creds := s.creds.put i (.revoked class_ declared check) }.setDirty
  match s.store.image with
  | .complete contents => return .wait (s'.beginRevocation contents c.port i)
  | _ => return .reply .ok (u8 i ++ u32 check.toNat) s'

/-- REVOKE_SLOT (R139, R140). -/
def execRevokeSlot (p : PortId) (bytes : List Byte) (s : State) : Result :=
  .next (s.serve { length := some 1, level := always 2 } p bytes ownRevokeSlot)

/-- The check value of a slot that keeps one. -/
def Slot.check? : Slot → Option CheckValue
  | .loaded _ _ _ k => some k
  | .bound _ _ _ k => some k
  | .revoked _ _ k => some k
  | _ => none

/-- The image after a revocation write ends OK: the slot's entry takes the values the slot keeps (R140). -/
def Image.withEntry (image : Image) (i : Fin 16) (slot : Slot) : Image :=
  match image with
  | .complete c => .complete (c.putSlot i slot.saved)
  | other => other

/-- A revocation write ends: the image is COMPLETE with the entry REVOKED, or INCOMPLETE at a write fault; the reply is
placed on the port that waits (R140). -/
def State.finishRevocation (s : State) (result : WriteResult) (p : PortId) (i : Fin 16) : State :=
  match result with
  | .ok =>
    ({ s with
        store :=
          { s.store with image := s.store.image.withEntry i s.creds.slots[i], write := .idle } }).placeReply p .ok
      (u8 i ++ (match s.creds.slots[i].check? with | none => [] | some k => u32 k.toNat))
  | .fault =>
    ({ s with store := { s.store with image := .incomplete, write := .idle } }).placeReply p .writeFault (u8 i)

/-- REVOCATION_WRITE_COMPLETION (R140): the write ends, when one runs (log 2). -/
def execRevocationWriteCompletion (result : WriteResult) (s : State) : Result :=
  .next
    (match s.store.write with
    | .revoking p i => s.finishRevocation result p i
    | _ => s)

/-- The owning block of Erase Slot: a LOADED or REVOKED slot becomes EMPTY; an EMPTY one is left, and the dirty flag with
it (R141). -/
def ownEraseSlot (c : Call) (s : State) : Check Answer := do
  let (slot, _) ← read8 c.payload
  let i ← requireSome (index? 16 slot) .badValue
  require s.slotsOpen .busy
  match s.creds.slots[i] with
  | .loading .. => .error (.slotState, [])
  | .bound .. => .error (.slotState, [])
  | .empty => return .reply .ok (u8 i) s
  | _ => return .reply .ok (u8 i) { s with creds := s.creds.put i .empty }.setDirty

/-- ERASE_SLOT (R141). -/
def execEraseSlot (p : PortId) (bytes : List Byte) (s : State) : Result :=
  .next (s.serve { length := some 1, level := always 1 } p bytes ownEraseSlot)

end Sys2Proof.Machine
end

