-- ==== Sys2Proof/Machine/ModeRequests.lean ====
section
/-! DEFINITION. SAVE_IMAGE, SHIP, REOPEN, SAVE_COMPLETION (chapters 8 and 9). -/

namespace Sys2Proof.Machine

open Sys2Proof

/-- The triple count a save writes: 0 with no grid (R157). -/
def State.tripleCount (s : State) : Nat :=
  match s.grid.descriptor with
  | none => 0
  | some d => d.triples

/-- The owning block of Save Image (R157). -/
def ownSaveImage (_ : Call) (s : State) : Check Answer := do
  require (s.modes.mode != .field) .mode
  require (!s.writeRuns && !s.modes.shipping && s.regions.selection.isNone) .busy
  return .reply .ok (u32 s.tripleCount) s.beginSave

/-- SAVE_IMAGE (R157, R158). -/
def execSaveImage (p : PortId) (bytes : List Byte) (s : State) : Result :=
  .next (s.serve { length := some 0, level := always 1 } p bytes ownSaveImage)

/-! ## Ship -/

/-- A slot of class SERVICE is LOADED (R147). -/
def Slot.isLoadedService : Slot → Bool
  | .loaded c .. => c == .service
  | _ => false

/-- The readiness conditions of Ship, in their order, with their reason codes (R147). -/
def State.readiness (s : State) (force : Bool) : List (Nat × Bool) :=
  [(1, !s.writeRuns),
   (2, s.creds.slots.toList.all (fun x => !x.isLoading)),
   (3, s.regions.active?.isSome),
   (4, s.regions.selection.isNone),
   (5, s.grid.descriptor.isSome),
   (6, s.queue.entries.isEmpty),
   (7, s.conv.readings.isEmpty),
   (8, s.modes.mode != .factory || s.creds.slots.toList.any Slot.isLoadedService),
   (9, s.grid.allConverged || force)]

/-- The reason code of the first condition that fails (R147). -/
def State.notReadyReason (s : State) (force : Bool) : Option Nat :=
  ((s.readiness force).find? (fun c => !c.2)).map (·.1)

/-- A slot as Ship binds it: LOADED becomes BOUND (R127, R148). -/
def Slot.bind : Slot → Slot
  | .loaded c n d k => .bound c n d k
  | s => s

/-- The slot is LOADED. -/
def Slot.isLoaded : Slot → Bool
  | .loaded .. => true
  | _ => false

/-- The LOADED slots, in index order (R143, R148). -/
def CredentialTable.loadedSlots (t : CredentialTable) : List (Fin 16) :=
  (List.finRange 16).filter (fun i => t.slots[i].isLoaded)

/-- Every LOADED slot is bound (R148). -/
def CredentialTable.bindAll (t : CredentialTable) : CredentialTable := { t with slots := mapTable Slot.bind t.slots }

/-- What Ship does when it is taken (R148): steps 1 to 5, then the save begins with the slots already bound. -/
def State.takeShip (s : State) : State :=
  let bound := s.creds.loadedSlots
  let s1 : State :=
    { s with
      modes := { s.modes with shipping := true, boundByShip := bound }
      creds := s.creds.bindAll
      queue := { s.queue with hold := .released }
      engine := { s.engine with lineBypass := false }
      generator := { s.generator with requested := .external } }
  let s2 := if bound.isEmpty then s1 else s1.setDirty
  s2.beginSave

/-- The owning block of Ship (R146, R147, R148). -/
def ownShip (c : Call) (s : State) : Check Answer := do
  let (force, _) ← read8 c.payload
  require (force ≤ 1) .badValue
  require (s.modes.mode != .field) .mode
  require (!s.modes.shipping) .busy
  match s.notReadyReason (force == 1) with
  | some reason => .error (.notReady, u8 reason)
  | none => return .wait s.takeShip

/-- SHIP (R146, R147, R148). -/
def execShip (p : PortId) (bytes : List Byte) (s : State) : Result :=
  .next (s.serve { length := some 1, level := always 1 } p bytes ownShip)

/-- A slot as a ship fault returns it: BOUND becomes LOADED (R127, R151). -/
def Slot.unbind : Slot → Slot
  | .bound c n d k => .loaded c n d k
  | s => s

/-- The slots on a list are returned to LOADED (R151). -/
def CredentialTable.unbindAll (t : CredentialTable) (list : List (Fin 16)) : CredentialTable :=
  { t with slots := list.foldl (fun (v : Vector Slot 16) (i : Fin 16) => v.set i (v[i].unbind)) t.slots }

/-- Ship ends OK: fuse set, FIELD, list emptied, indicator cleared, reply placed on the Line Port (R150). -/
def State.shipEndsOk (s : State) : State :=
  ({ s with
      modes := { s.modes with fuse := true, mode := .field, shipping := false, boundByShip := [] } }).placeReply
    .line .ok (u8 Mode.field.number ++ u8 s.modes.boundByShip.length)

/-- Ship ends with a write fault: the slots it bound return to LOADED, list emptied, indicator cleared, reply placed on the
Line Port (R151). The fault itself sets the dirty flag (R160). -/
def State.shipEndsFault (s : State) : State :=
  ({ s with
      creds := s.creds.unbindAll s.modes.boundByShip
      modes := { s.modes with shipping := false, boundByShip := [] } }).placeReply .line .writeFault []

/-- A save completes (R160), and with it the Ship that runs it (R150, R151). -/
def State.finishSave (s : State) (result : WriteResult) (contents : ImageContents) : State :=
  match result with
  | .ok =>
    let s' : State :=
      { s with store := { s.store with image := .complete contents, write := .idle, lastResult := .ok, dirty := false } }
    let s'' := s'.raiseIf true .save
    if s.modes.shipping then s''.shipEndsOk else s''
  | .fault =>
    let s' : State :=
      { s with store := { s.store with image := .incomplete, write := .idle, lastResult := .writeFault, dirty := true } }
    let s'' := s'.raiseIf true .save
    if s.modes.shipping then s''.shipEndsFault else s''

/-- SAVE_COMPLETION (R160, R150, R151): the save completes, when one runs (log 2). -/
def execSaveCompletion (result : WriteResult) (s : State) : Result :=
  .next
    (match s.store.write with
    | .saving contents => s.finishSave result contents
    | _ => s)

/-! ## Reopen -/

/-- The data of a BOUND slot of class SERVICE (R153). -/
def Slot.serviceData? : Slot → Option (List Byte)
  | .bound c _ d _ => if c = .service then some d else none
  | _ => none

/-- The service credential: the data of the BOUND slot of class SERVICE, if there is one (R153, R126). -/
def CredentialTable.serviceCredential? (t : CredentialTable) : Option (List Byte) :=
  t.slots.toList.findSome? Slot.serviceData?

/-- The owning block of Reopen (R153, R154). -/
def ownReopen (c : Call) (s : State) : Check Answer := do
  require (c.payload.length == 32) .badLength
  require (c.port == .line) .notAllowed
  require (s.modes.mode == .field) .mode
  let credential ← requireSome s.creds.serviceCredential? .noCredential
  require (s.modes.failures < Config.failureLimit) .lockedOut
  if c.payload = credential then
    return .reply .ok (u8 Mode.service.number) { s with modes := { s.modes with mode := .service, failures := 0 } }
  else
    return .reply .denied (u8 (s.modes.failures + 1))
      ({ s with modes := { s.modes with failures := s.modes.failures + 1 } }.raiseIf true .reopenFail)

/-- REOPEN (R153). -/
def execReopen (p : PortId) (bytes : List Byte) (s : State) : Result :=
  .next (s.serve { length := none, level := always 2 } p bytes ownReopen)

end Sys2Proof.Machine
end

