-- ==== Sys2Proof/Machine/FrameOps.lean ====
section
/-! DEFINITION. The parts of a frame start: cadence (R111), the loading gap (R133), the guard (R50 to R52), the decision on
application (R45), the Marker Detector's judgement (R95 to R103), the latched frame settings (R23, R24), the timing source
and the frame begun (R113, R114). -/

namespace Sys2Proof.Machine

open Sys2Proof

/-! ## Cadence (R111) -/

/-- The steps of a family, repeating. -/
def Family.steps : Family → List Nat
  | .f50 => [20]
  | .f60 => [17, 17, 16]
  | .f120 => [8, 8, 9]

/-- The family in force with a region table: the ACTIVE profile's, or F60 (R111). -/
def familyInForce (t : RegionTable) : Family :=
  match t.active? with
  | none => .f60
  | some r => r.family

/-- The phase at which the coming frame start takes its step: the first when the family changes there (R111). -/
def FrameTiming.comingPhase (t : FrameTiming) (family : Family) : Nat := if family = t.family then t.phase else 0

/-- The step of a family at a phase. -/
def Family.stepAt (f : Family) (phase : Nat) : Nat := f.steps.getD phase 0

/-- The step the coming frame start carries, a selection that takes effect there counted (R111, R120). -/
def State.comingStep (s : State) : Nat :=
  let family := familyInForce s.regions.takeEffect
  family.stepAt (s.timing.comingPhase family)

/-- The family and the phase settled, and the frame number raised by one (R110, R111). The region table is the one in
which a pending selection has taken effect. -/
def FrameTiming.advance (t : FrameTiming) (family : Family) : FrameTiming :=
  { t with
    number := t.number + 1
    family := family
    phase := (t.comingPhase family + 1) % family.steps.length }

/-! ## The loading gap (R133) -/

/-- The load is abandoned: the slot becomes EMPTY, the loading context idle, and LOAD attention is raised (R133). -/
def State.abandonLoad (s : State) (l : LoadingContext) : State :=
  { s with creds := s.creds.finish l.slot .empty }.raiseIf true .load

/-- The gap timer of a busy loading context adds the step, and abandons the load at 2000 ms (R133). -/
def State.addGap (s : State) (step : Nat) : State :=
  match s.creds.loading with
  | none => s
  | some l =>
    if Config.gapLimit ≤ l.gap + step then s.abandonLoad l
    else { s with creds := { s.creds with loading := some { l with gap := l.gap + step } } }

/-! ## The guard -/

/-- The guard is replaced. -/
def State.withGuard (s : State) (g : Guard) : State := { s with queue := { s.queue with guard := g } }

/-- A running guard adds the step and stops when its time is reached (R51). A guard that a report at this frame start has
just started does not count its step (R50). That such a guard is not compared with the guard time at this frame start
either, so that a Set Pattern Timing of 0 between HOLDING_START and its FRAME_START leaves the frame start suspended, is
the model's choice: R50 has the guard running when the application is decided, and R51 would stop it (log 41). -/
def State.addGuard (s : State) (step : Nat) : State :=
  match s.queue.guard with
  | .stopped => s
  | .running acc =>
    if s.book.guardFresh then s
    else s.withGuard (if s.detector.guardTime ≤ acc + step then .stopped else .running (acc + step))

/-- The report that a pattern has become held: the guard starts from 0, or is stopped when the guard time is 0 (R50). -/
def State.guardReport (s : State) : State :=
  s.withGuard (if s.detector.guardTime = 0 then .stopped else .running 0)

/-! ## Application (R43, R45, R49) -/

/-- Application is suspended at this frame start (R45). -/
def State.suspended (s : State) : Bool :=
  s.queue.hold == .held || s.queue.guard != .stopped || s.saveRuns

/-- The decision on application, after the guard has added the step: a queue that holds entries and is not suspended is
applied, and a pending step is spent by it; else nothing changes (R43, R45, R49). -/
def State.decideApplication (s : State) (frame : FrameNumber) : State :=
  if s.suspended || s.queue.entries.isEmpty then s
  else
    let s' := s.applyQueue frame
    if s.queue.hold = .stepPending then { s' with queue := { s'.queue with hold := .held } } else s'

/-! ## The Marker Detector -/

/-- The pattern a marker names: the six green codes of line 0, valid, of tag 1..255 (R95). -/
def markerPattern? : List PixelCode → Option Pattern
  | [c0, c1, tag, level, set, check] =>
    if c0.toNat = 709 ∧ c1.toNat = 314 ∧ 1 ≤ tag.toNat ∧ tag.toNat ≤ 255 ∧ check.toNat = 1023 - level.toNat then
      (channelSet? set.toNat).map
        (fun channels => { tag := tag.toNat, kind := .flat, level := level.toNat, channels := channels })
    else none
  | _ => none

/-- The sighting of the frame in progress, by the source of its content: a pattern or nothing (R96, R98, R102). -/
def State.sighting (s : State) : Option (Pattern × Source) :=
  match s.timing.frame with
  | none => none
  | some f =>
    if f.cutOff then none
    else
      match f.content with
      | .input i => (markerPattern? i.line0).map (fun p => (p, .external))
      | .generated =>
        match s.generator.shown with
        | some (.test p) => some (p, .internal)
        | _ => none
      | .black => none
      | .blanking => none

/-- A judgement: the detector's state after it, and whether it ends or starts holding. -/
structure Verdict where
  state : Detection
  ends : Bool
  starts : Bool
deriving DecidableEq, Repr

/-- A pattern becomes the candidate; with a settle time of 0 it becomes held at once (R99, R100). -/
def newCandidate (p : Pattern) (src : Source) (settleTime : Nat) (frame : FrameNumber) (ends : Bool) : Verdict :=
  if settleTime = 0 then { state := .held p src frame, ends := ends, starts := true }
  else { state := .settling p src 0, ends := ends, starts := false }

/-- The Marker Detector moves on a sighting, at the judging frame start of the given number; `step` is the judged frame's
(R99, R100). -/
def judgeSighting (d : MarkerDetector) (sighting : Option (Pattern × Source)) (step : Nat) (frame : FrameNumber) :
    Verdict :=
  match d.state, sighting with
  | .none, none => { state := .none, ends := false, starts := false }
  | .none, some (p, src) => newCandidate p src d.settleTime frame false
  | .settling _ _ _, none => { state := .none, ends := false, starts := false }
  | .settling c src acc, some (p, src') =>
    if p = c then
      if d.settleTime ≤ acc + step then { state := .held c src frame, ends := false, starts := true }
      else { state := .settling c src (acc + step), ends := false, starts := false }
    else newCandidate p src' d.settleTime frame false
  | .held _ _ _, none => { state := .none, ends := true, starts := false }
  | .held h src b, some (p, src') =>
    if p = h then { state := .held h src b, ends := false, starts := false }
    else newCandidate p src' d.settleTime frame true

/-- The coming frame start changes the source in effect (R90). -/
def State.sourceChanges (s : State) : Bool := s.generator.effective != s.generator.requested

/-- The frame in progress is one the Marker Detector judges: it began while the part was READY (R97). -/
def State.frameJudged (s : State) : Bool :=
  match s.timing.frame with
  | none => false
  | some f => f.begunReady

/-- The step of the frame in progress (R98). -/
def State.frameStep (s : State) : Nat :=
  match s.timing.frame with
  | none => 0
  | some f => f.step

/-- The number the coming frame start carries (R110). -/
def State.comingNumber (s : State) : FrameNumber := s.timing.number + 1

/-- The verdict of the coming frame start: a change of source ends holding and clears the candidate without a judgement
(R101); a frame that is not judged leaves the detector as it is (R97); else the frame's sighting is judged (R99). -/
def State.comingVerdict (s : State) : Verdict :=
  if s.sourceChanges then
    { state := .none, ends := s.detector.state.heldPattern?.isSome, starts := false }
  else if s.frameJudged then judgeSighting s.detector s.sighting s.frameStep s.comingNumber
  else { state := s.detector.state, ends := false, starts := false }

/-- The detector's state is replaced. -/
def State.withDetection (s : State) (d : Detection) : State := { s with detector := { s.detector with state := d } }

/-- Holding ends: HELD attention, and the report that stops a running guard (R52, R103). -/
def State.reportEnd (s : State) : State := (s.raiseIf true .held).withGuard .stopped

/-- Holding starts: HELD attention, and the report that starts the guard (R50, R103). -/
def State.reportStart (s : State) : State := (s.raiseIf true .held).guardReport

/-- The reports of a verdict, the ending before the start (R103). -/
def State.report (s : State) (v : Verdict) : State :=
  let s' := if v.ends then s.reportEnd else s
  if v.starts then s'.reportStart else s'

/-- How the detector's candidate is left when an ending has been taken and the start it goes with has not: the new
candidate with accumulated time 0 (R99, R103). -/
def Verdict.afterEnd (v : Verdict) : Detection :=
  match v.state with
  | .held p src _ => if v.starts then .settling p src 0 else v.state
  | other => other

/-- The start that is still to be taken after an ending was taken as a command of its own: a candidate whose settle time
is 0 (R100, R103; log 3). -/
def State.remainingVerdict (s : State) : Verdict :=
  match s.detector.state with
  | .settling p src 0 =>
    if s.detector.settleTime = 0 then { state := .held p src s.comingNumber, ends := false, starts := true }
    else { state := s.detector.state, ends := false, starts := false }
  | other => { state := other, ends := false, starts := false }

/-- What is left of the coming frame start's judgement (log 3): all of it, the start after an ending, or, when it was
taken whole, only what a source change does (R101). -/
def State.verdictLeft (s : State) : Verdict :=
  if s.sourceChanges then s.comingVerdict
  else
    match s.book.judgement with
    | .notTaken => s.comingVerdict
    | .endTaken => s.remainingVerdict
    | .taken => { state := s.detector.state, ends := false, starts := false }

/-! ## The frame settings (R23, R24) -/

/-- The treatment of a frame once READY: the first condition that holds (R24). `size` is the input frame's active size, when
the frame start comes from one. -/
def chooseTreatment (source : Source) (signal bypass : Bool) (latched : Option Descriptor)
    (size : Option (Nat × Nat)) : Treatment :=
  if source = .external ∧ signal = false then .black
  else if bypass then .uncorrected
  else
    match latched with
    | none => .uncorrected
    | some d =>
      match source, size with
      | .external, some (w, h) => if w = d.width ∧ h = d.height then .corrected else .uncorrected
      | _, _ => .corrected

/-- The ceiling of a frame: the ACTIVE profile's, or 1023 (R23). -/
def ceilingOf (active : Option Region) : Nat :=
  match active with
  | none => 1023
  | some r => r.ceiling

/-- The Correction Engine replaces its frame settings (R23). -/
def State.latchSettings (s : State) (size : Option (Nat × Nat)) : State :=
  if s.isReady then
    let bypass := effectiveBypass s.engine.lineBypass s.engine.viewerBypass s.regions.active?
    { s with
      engine :=
        { s.engine with
          treatment := chooseTreatment s.generator.effective s.pins.signal bypass s.grid.descriptor size
          latched := s.grid.descriptor
          ceiling := ceilingOf s.regions.active?
          bypass := bypass } }
  else
    { s with engine := { s.engine with treatment := .starting, latched := none, ceiling := 1023, bypass := false } }

/-! ## The frame begun (R90, R92, R113, R114) -/

/-- The requested source becomes the source in effect, and the stored pattern is shown under an INTERNAL source (R90,
R92). -/
def PatternGenerator.takeSource (g : PatternGenerator) : PatternGenerator :=
  { g with
    effective := g.requested
    shown := if g.requested = .internal then some g.stored else none }

/-- What the frame begun is made from (R35, R90, R114): an input frame, a generated frame, a black frame without input, or
vertical blanking until the next input frame start. -/
def contentBegun (source : Source) (signal : Bool) (input : Option InputFrame) : FrameContent :=
  match source, input with
  | .internal, _ => .generated
  | .external, some f => .input f
  | .external, none => if signal then .blanking else .black

/-- The size of a frame the part times itself: the latched descriptor's, or 3840 × 2160 (R35, R93, R113). -/
def CorrectionEngine.frameSize (e : CorrectionEngine) : Nat × Nat :=
  match e.latched with
  | none => (Config.defaultWidth, Config.defaultHeight)
  | some d => (d.width, d.height)

/-- The active size of the frame begun: an input frame's own, else that of internal timing (R113). -/
def sizeBegun (e : CorrectionEngine) : FrameContent → Nat × Nat
  | .input i => (i.width, i.height)
  | _ => e.frameSize

/-- The timing source from a frame start on (R113, R114). -/
def timingSourceBegun (source : Source) (input : Option InputFrame) : TimingSource :=
  match source, input with
  | .external, some _ => .input
  | _, _ => .internal

/-! ## The frame start as a whole (R110) -/

/-- The first parts of a frame start: a pending selection takes effect, the family, step and number are settled, the
loading gap and the guard add the step, and the queue is applied unless suspended. -/
def State.beginFrameStart (s : State) : State :=
  let step := s.comingStep
  let s1 := s.takeSelection
  let s2 := { s1 with timing := s1.timing.advance (familyInForce s1.regions) }
  ((s2.addGap step).addGuard step).decideApplication s.comingNumber

/-- The last parts of a frame start: the source takes effect, the settings are latched, and the frame is begun. -/
def State.beginFrame (s : State) (step : Nat) (input : Option InputFrame) : State :=
  let s1 := { s with generator := s.generator.takeSource }
  let s2 := s1.latchSettings (input.map (fun f => (f.width, f.height)))
  let content := contentBegun s2.generator.effective s2.pins.signal input
  { s2 with
    timing :=
      { s2.timing with
        source := timingSourceBegun s2.generator.effective input
        frame := some
          { content := content, width := (sizeBegun s2.engine content).1, height := (sizeBegun s2.engine content).2,
            step := step, begunReady := s2.isReady, cutOff := false }
        internalTail := false }
    book := { s2.book with judgement := .notTaken, guardFresh := false } }

/-- A frame start, internal or from an input frame (R110). The Marker Detector's verdict is that of the state before it; its
reports are taken after the application, unless a HOLDING_END or HOLDING_START took them before (R50, R52; log 3). -/
def State.frameStart (s : State) (input : Option InputFrame) : State :=
  let verdict := s.verdictLeft
  let s1 := s.beginFrameStart
  let s2 := (s1.withDetection verdict.state).report verdict
  s2.beginFrame s.comingStep input

/-- The INPUT condition an input frame is judged to have (R115). -/
def conditionOf (latched : Option Descriptor) (f : InputFrame) : InputCondition :=
  match latched with
  | none => .present
  | some d => if f.width = d.width ∧ f.height = d.height then .present else .mismatch

/-- The next frame start comes from the input link: the source in effect is EXTERNAL and the link carries a signal, unless
the frame in progress keeps its internal timing across a reset (R113, R114). -/
def State.followsInput (s : State) : Bool :=
  s.generator.effective == .external && s.pins.signal && !s.timing.internalTail

end Sys2Proof.Machine
end

