-- ==== Sys2Proof/Machine/Events.lean ====
section
/-! DEFINITION. POWER_ON_RESET, RESET_LINE_ASSERTED, RESET_LINE_RELEASED, SUPPLY_LOST, INPUT_APPEARS, INPUT_LOST,
INPUT_FRAME_START, FRAME_START, GUARD_EXPIRY, GAP_EXPIRY, HOLDING_START, HOLDING_END. An event whose condition does not hold
does not occur, and leaves the part as it is (log 2). -/

namespace Sys2Proof.Machine

open Sys2Proof

/-! ## Supply and reset line -/

/-- The supply becomes valid (R162): a power-on reset; the load begins at once, unless RESET_N is held asserted (R163,
logs 20 and 21). -/
def State.powerOn (s : State) : State :=
  let s' : State := { s with pins := { s.pins with supply := true } }
  s'.coldReset s'.startUpAfterReset

/-- POWER_ON_RESET (R162). -/
def execPowerOnReset (s : State) : Result := .next s.powerOn

/-- RESET_N is asserted (R162): all volatile state is reset, a running write is interrupted, and the load does not begin
(R163). Without supply only the pin changes (log 19). -/
def State.assertReset (s : State) : State :=
  let s' : State := { s with pins := { s.pins with resetAsserted := true } }
  if s.pins.supply then s'.volatileReset .waiting else s'

/-- RESET_LINE_ASSERTED (R162). -/
def execResetLineAsserted (s : State) : Result := .next (if s.pins.resetAsserted then s else s.assertReset)

/-- RESET_N is released (R163): the ports take frames again and the start-up load begins. -/
def State.releaseReset (s : State) : State :=
  let s' : State := { s with pins := { s.pins with resetAsserted := false } }
  if s.pins.supply then { s' with store := { s'.store with startUp := .loading } } else s'

/-- RESET_LINE_RELEASED (R163). -/
def execResetLineReleased (s : State) : Result := .next (if s.pins.resetAsserted then s.releaseReset else s)

/-- The supply is lost (R162): a running write is interrupted and all volatile state ends (log 19). -/
def State.losePower (s : State) : State :=
  let s' := s.coldReset .waiting
  { s' with pins := { s'.pins with supply := false } }

/-- SUPPLY_LOST (R162). -/
def execSupplyLost (s : State) : Result := .next (if s.pins.supply then s.losePower else s)

/-! ## The input link -/

/-- The link begins to carry a signal (R113). The INPUT condition and the timing source wait for the first input frame
(R114, R115). -/
def State.signalAppears (s : State) : State := { s with pins := { s.pins with signal := true } }

/-- INPUT_APPEARS (R114). -/
def execInputAppears (s : State) : Result := .next s.signalAppears

/-- Loss of the input under an EXTERNAL source ends a held pattern, clears the candidate and puts the detector in NONE
(R102). -/
def State.loseSight (s : State) : State :=
  let s' := s.withDetection .none
  if s.detector.state.heldPattern?.isSome then s'.reportEnd else s'

/-- The frame timing after a loss of the input under an EXTERNAL source: internal, the rest of the frame cut off (R26,
R114; log 25). -/
def FrameTiming.cutOff (t : FrameTiming) : FrameTiming :=
  { t with
    source := .internal
    frame := t.frame.map (fun f => { f with cutOff := true })
    internalTail := false }

/-- The link ceases to carry a signal: INPUT becomes ABSENT at once, whatever the source (R115); under an EXTERNAL source
the frame is cut off, timing is internal and holding ends (R26, R102, R114). -/
def State.signalLost (s : State) : State :=
  let s1 : State := { s with pins := { s.pins with signal := false } }
  if s.pins.supply then
    let s2 := s1.judgeInput .absent
    if s.generator.effective = .external then { s2 with timing := s2.timing.cutOff }.loseSight else s2
  else s1

/-- INPUT_LOST (R114). -/
def execInputLost (s : State) : Result := .next (if s.pins.signal then s.signalLost else s)

/-- An input frame that makes a frame start: the frame start, then the INPUT condition against the descriptor latched there
(R114, R115). -/
def State.inputFrame (s : State) (f : InputFrame) : State :=
  let s' := s.frameStart (some f)
  s'.judgeInput (conditionOf s'.engine.latched f)

/-- An input frame begins (R115): a frame start where frame starts follow the input, else only the INPUT condition is
judged. -/
def State.inputBegins (s : State) (f : InputFrame) : State :=
  if !(s.pins.supply && s.pins.signal) then s
  else if s.followsInput then s.inputFrame f
  else s.judgeInput (conditionOf s.engine.latched f)

/-- INPUT_FRAME_START (R115). -/
def execInputFrameStart (f : InputFrame) (s : State) : Result :=
  whenWellFormed (.inputFrameStart f) (s.inputBegins f)

/-- A frame start, where one is due: an internal one where frame starts do not follow the input, or one from an input frame
where they do (R113, R114; log 4). -/
def State.originBegins (s : State) : FrameOrigin → State
  | .internal => if s.pins.supply && !s.followsInput then s.frameStart none else s
  | .input f => if s.pins.supply && s.followsInput then s.inputFrame f else s

/-- FRAME_START (R110). -/
def execFrameStart (origin : FrameOrigin) (s : State) : Result :=
  whenWellFormed (.frameStart origin) (s.originBegins origin)

/-! ## Parts of the coming frame start taken before its application (log 3) -/

/-- The guard's time is reached with the step of the coming frame start (R51; not for a guard just started, log 41). -/
def State.guardDue (s : State) : Bool :=
  match s.queue.guard with
  | .stopped => false
  | .running acc => s.pins.supply && !s.book.guardFresh && s.detector.guardTime ≤ acc + s.comingStep

/-- GUARD_EXPIRY: the guard stops (R51). -/
def execGuardExpiry (s : State) : Result := .next (if s.guardDue then s.withGuard .stopped else s)

/-- The load the gap timer abandons with the step of the coming frame start (R133). -/
def State.gapDue? (s : State) : Option LoadingContext :=
  match s.creds.loading with
  | none => none
  | some l => if s.pins.supply ∧ Config.gapLimit ≤ l.gap + s.comingStep then some l else none

/-- GAP_EXPIRY: the load is abandoned (R133). -/
def execGapExpiry (s : State) : Result :=
  .next
    (match s.gapDue? with
    | none => s
    | some l => s.abandonLoad l)

/-- The judgement is marked as taken so far. -/
def State.withJudgement (s : State) (j : Judgement) : State := { s with book := { s.book with judgement := j } }

/-- The verdict that ends holding at the coming frame start, when it does and has not been taken (R99, R101). -/
def State.endDue (s : State) : Bool :=
  s.pins.supply && s.book.judgement == .notTaken && s.comingVerdict.ends

/-- HOLDING_END (R103): holding ends before the coming frame start's application; a start that goes with it is left to be
taken. -/
def State.takeEnd (s : State) : State :=
  let v := s.comingVerdict
  ((s.withDetection v.afterEnd).reportEnd).withJudgement (if v.starts then .endTaken else .taken)

/-- HOLDING_END (R103). -/
def execHoldingEnd (s : State) : Result := .next (if s.endDue then s.takeEnd else s)

/-- The verdict that starts holding at the coming frame start, when no ending goes before it (R99, R100). -/
def State.startDue (s : State) : Bool :=
  s.pins.supply && s.book.judgement != .taken && s.verdictLeft.starts && !s.verdictLeft.ends

/-- Holding starts before the coming frame start's application, which the guard then suspends without counting its step
(R50, R100, R103). -/
def State.takeStart (s : State) : State :=
  let v := s.verdictLeft
  let s' := ((s.withDetection v.state).reportStart).withJudgement .taken
  { s' with book := { s'.book with guardFresh := true } }

/-- HOLDING_START (R100). -/
def execHoldingStart (s : State) : Result := .next (if s.startDue then s.takeStart else s)

end Sys2Proof.Machine
end

