-- ==== Sys2Proof/Machine/GridRequests.lean ====
section
/-! DEFINITION. DEFINE_GRID, READ_DESCRIPTOR, READ_KNOTS, READ_SUMMARY (chapter 1). -/

namespace Sys2Proof.Machine

open Sys2Proof

/-- The plane levels a payload holds, when it holds exactly `count` of them (R16). -/
def readLevels : Nat → List Byte → Check (List Nat)
  | 0, [] => .ok []
  | 0, _ => .error (.badLength, [])
  | n + 1, bytes => do
    let (level, rest) ← read16 bytes
    let levels ← readLevels n rest
    return level :: levels

/-- The checks of Define Grid, in their order (R16; log 11 for the first). -/
def checkDefineGrid (payload : List Byte) (s : State) : Check Descriptor := do
  let (width, payload) ← read16 payload
  let (height, payload) ← read16 payload
  let (exponent, payload) ← read8 payload
  let (count, payload) ← read8 payload
  require (payload.length == 2 * count) .badLength
  require (1 ≤ count && count ≤ 8) .badValue
  require (s.modes.mode != .field) .mode
  require s.tablesOpen .busy
  let levels ← readLevels count payload
  require (640 ≤ width && width ≤ 7680 && 360 ≤ height && height ≤ 4320 && 5 ≤ exponent && exponent ≤ 8 &&
    levels.all (· ≤ 1023)) .badValue
  require (strictlyIncreasing levels) .badValue
  let d : Descriptor := { width := width, height := height, exponent := exponent, levels := levels }
  require (d.triples ≤ Config.tripleCapacity) .capacity
  return d

/-- What Define Grid does when it is taken (R17): the descriptor and the records anew, both queues emptied, the targets
cleared, the dirty flag set, ALL_CONVERGED judged again. -/
def State.defineGrid (s : State) (d : Descriptor) : State :=
  let s' : State :=
    { s with
      grid := s.grid.define d
      queue := { s.queue with entries := [] }
      conv := { s.conv with readings := [], targets := Vector.replicate 8 (Rgb.fill 0) } }
  s'.setDirty.judgeConverged

/-- The owning block of Define Grid (R16, R17). -/
def ownDefineGrid (c : Call) (s : State) : Check Answer := do
  let d ← checkDefineGrid c.payload s
  return .reply .ok
    (u16 d.columns ++ u16 d.rows ++ u16 d.knots ++ u32 d.triples ++ u16 s.queue.entries.length ++
      u8 s.conv.readings.length)
    (s.defineGrid d)

/-- DEFINE_GRID (R16, R17). -/
def execDefineGrid (p : PortId) (bytes : List Byte) (s : State) : Result :=
  .next (s.serve { length := none, level := always 1 } p bytes ownDefineGrid)

/-- The payload of Read Descriptor (R18). -/
def descriptorPayload : Option Descriptor → List Byte
  | none => truthByte .descriptorDefined false
  | some d =>
    truthByte .descriptorDefined true ++ u16 d.width ++ u16 d.height ++ u8 d.exponent ++ u16 d.spacing ++
      u16 d.columns ++ u16 d.rows ++ u16 d.knots ++ u8 d.planes ++ d.levels.flatMap u16 ++ u32 d.triples

/-- The owning block of Read Descriptor (R18). -/
def ownReadDescriptor (_ : Call) (s : State) : Check Answer :=
  .ok (.reply .ok (descriptorPayload s.grid.descriptor) s)

/-- READ_DESCRIPTOR (R18). -/
def execReadDescriptor (p : PortId) (bytes : List Byte) (s : State) : Result :=
  .next (s.serve { length := some 0, level := always 2 } p bytes ownReadDescriptor)

/-- One record as Read Knots reports it (R19). -/
def recordPayload (column : Nat) (r : KnotRecord) (pendingCount : Nat) : List Byte :=
  u16 column ++ u8 r.state.number ++ (r.trim.toList.flatMap s16) ++ (r.hits.toList.flatMap u8) ++
    u8 (channelNumber r.limit) ++ optional (fun f => u32 f.toNat) r.applied ++ u16 pendingCount

/-- The records of a run of knots along a row (R19). -/
def knotsPayload (s : State) (d : Descriptor) (plane row first count : Nat) : List Byte :=
  (List.range' first count).flatMap (fun column =>
    match s.grid.record? d plane row column with
    | none => []
    | some r => recordPayload column r (s.queue.pendingCount column row plane))

/-- The owning block of Read Knots (R19). -/
def ownReadKnots (c : Call) (s : State) : Check Answer := do
  let (plane, bytes) ← read8 c.payload
  let (row, bytes) ← read16 bytes
  let (first, bytes) ← read16 bytes
  let (count, _) ← read8 bytes
  let d ← requireSome s.grid.descriptor .noGrid
  require (1 ≤ count && count ≤ 12 && plane < d.planes) .badValue
  require (row < d.rows && first + count ≤ d.columns) .outOfGrid
  return .reply .ok (knotsPayload s d plane row first count) s

/-- READ_KNOTS (R19). -/
def execReadKnots (p : PortId) (bytes : List Byte) (s : State) : Result :=
  .next (s.serve { length := some 6, level := always 2 } p bytes ownReadKnots)

/-- A plane's six counts, in the order of R13. -/
def StateCounts.bytes (c : StateCounts) : List Byte :=
  u16 c.unset ++ u16 c.provisional ++ u16 c.tracking ++ u16 c.converged ++ u16 c.pinned ++ u16 c.retired

/-- The payload of Read Summary (R20). -/
def summaryPayload (s : State) : List Byte :=
  truthByte .summaryDefined s.grid.descriptor.isSome ++ u8 ((s.grid.descriptor.map (·.planes)).getD 0) ++
    s.grid.counts.flatMap StateCounts.bytes ++ u16 s.grid.writeSkip ++ u16 s.queue.entries.length ++
    truthByte .allConverged s.grid.allConverged

/-- The owning block of Read Summary: once the reply is assembled the write-skip count is set to 0 (R20). -/
def ownReadSummary (_ : Call) (s : State) : Check Answer :=
  .ok (.reply .ok (summaryPayload s) { s with grid := { s.grid with writeSkip := 0 } })

/-- READ_SUMMARY (R20). -/
def execReadSummary (p : PortId) (bytes : List Byte) (s : State) : Result :=
  .next (s.serve { length := some 0, level := always 2 } p bytes ownReadSummary)

end Sys2Proof.Machine
end

