-- ==== Sys2Proof/Machine/PatternRequests.lean ====
section
/-! DEFINITION. SELECT_SOURCE, SHOW_PATTERN, SET_PATTERN_TIMING (chapter 5). -/

namespace Sys2Proof.Machine

open Sys2Proof

/-- The owning block of Select Source (R91). -/
def ownSelectSource (c : Call) (s : State) : Check Answer := do
  let (value, _) ← read8 c.payload
  require (!s.modes.shipping) .busy
  let source ← requireSome (source? value) .badValue
  return .reply .ok (u8 s.generator.effective.number ++ u8 source.number)
    { s with generator := { s.generator with requested := source } }

/-- SELECT_SOURCE (R91). -/
def execSelectSource (p : PortId) (bytes : List Byte) (s : State) : Result :=
  .next (s.serve { length := some 1, level := always 1 } p bytes ownSelectSource)

/-- The generator pattern a tag and its fields stand for: tag 0 is the stopped pattern (R92, R94). -/
def generatorPattern (tag : Nat) (kind : PatternKind) (level : Nat) (channels : ChannelSet) : GeneratorPattern :=
  if tag = 0 then .stopped else .test { tag := tag, kind := kind, level := level, channels := channels }

/-- A stored pattern as Show Pattern reports it; the stopped pattern's other fields are reported as 0 (R92, R94). -/
def GeneratorPattern.bytes : GeneratorPattern → List Byte
  | .stopped => u8 0 ++ u8 0 ++ u16 0 ++ u8 0
  | .test p => u8 p.tag ++ u8 p.kind.number ++ u16 p.level ++ u8 (channelNumber p.channels)

/-- The owning block of Show Pattern (R94). -/
def ownShowPattern (c : Call) (s : State) : Check Answer := do
  let (tag, bytes) ← read8 c.payload
  let (kindNumber, bytes) ← read8 bytes
  let (level, bytes) ← read16 bytes
  let (set, _) ← read8 bytes
  require (!s.modes.shipping) .busy
  let kind ← requireSome (patternKind? kindNumber) .badValue
  require (level ≤ 1023) .badValue
  let channels ← requireSome (channelSet? set) .badValue
  let stored := generatorPattern tag kind level channels
  return .reply .ok (stored.bytes ++ u8 s.generator.effective.number ++ u8 s.generator.requested.number)
    { s with generator := { s.generator with stored := stored } }

/-- SHOW_PATTERN (R94). -/
def execShowPattern (p : PortId) (bytes : List Byte) (s : State) : Result :=
  .next (s.serve { length := some 5, level := always 1 } p bytes ownShowPattern)

/-- The owning block of Set Pattern Timing: both times are lowered to 2000 ms and replaced at once (R106). -/
def ownSetPatternTiming (c : Call) (s : State) : Check Answer := do
  let (settle, bytes) ← read16 c.payload
  let (guard, _) ← read16 bytes
  require (!s.modes.shipping) .busy
  let settleTime := min settle Config.patternTimeLimit
  let guardTime := min guard Config.patternTimeLimit
  return .reply .ok (u16 settleTime ++ u16 guardTime)
    { s with detector := { s.detector with settleTime := settleTime, guardTime := guardTime } }

/-- SET_PATTERN_TIMING (R106). -/
def execSetPatternTiming (p : PortId) (bytes : List Byte) (s : State) : Result :=
  .next (s.serve { length := some 4, level := always 1 } p bytes ownSetPatternTiming)

end Sys2Proof.Machine
end

