-- ==== Sys2Proof/Machine/PortEvents.lean ====
section
/-! DEFINITION. UNKNOWN_REQUEST, IGNORED_FRAME, FETCH, IGNORED_TRANSACTION, and what the part does on the Set Port's bus
(chapter 10). -/

namespace Sys2Proof.Machine

open Sys2Proof

/-- A frame with an unassigned code: not taken while PENDING; BAD_LENGTH before UNKNOWN_REQUEST; judged before STARTING
(R168). -/
def State.serveUnknown (s : State) (p : PortId) (bytes : List Byte) : State :=
  if s.deaf then s
  else if (s.port p).phase = .pending then s.loseFrame p
  else
    match header? bytes with
    | none => s.answered p (tagOf bytes) .badLength []
    | some h => s.answered p h.tag .unknownRequest []

/-- UNKNOWN_REQUEST (R168). -/
def execUnknownRequest (p : PortId) (code : Byte) (bytes : List Byte) (s : State) : Result :=
  whenWellFormed (.unknownRequest p code bytes) (s.serveUnknown p bytes)

/-- IGNORED_FRAME: no response, and port state, slot and mark unchanged (R168). -/
def execIgnoredFrame (p : PortId) (frame : List Byte) (s : State) : Result :=
  whenWellFormed (.ignoredFrame p frame) (s.ignoreTransfer p)

/-- The response a fetch finds on the port: its bytes while READY, none in IDLE or PENDING (R166, R167). -/
def Port.response (q : Port) : List Byte :=
  match q.phase, q.slot with
  | .ready, some r => r.bytes
  | _, _ => []

/-- The bytes after the port state byte, when `count` of them are clocked out: the response while READY, then 0x00
(R166, R167). -/
def Port.clockedOut (q : Port) (count : Nat) : List Byte :=
  q.response.take count ++ List.replicate (count - q.response.length) 0

/-- What the part drives on LSDO in a Line Port transaction, while byte `k` is clocked in, the direction byte being byte 0
(R166): after the direction byte of a fetch the port state byte, as it stands when the direction byte has been taken in,
then the response, then 0x00; in every other transaction 0x00 throughout. That a fetch too drives 0x00 while its direction
byte is clocked in, and that nothing is said while the ports take no frame, is the model's reading (log 27). -/
def State.lsdo (s : State) (direction : Byte) (k : Nat) : Option Byte :=
  if s.deaf then none
  else
    match k with
    | 0 => some 0
    | n + 1 => some (if direction.toNat = 0xA5 then (s.linePort.stateByte :: s.linePort.response).getD n 0 else 0)

/-- The response is consumed: the slot is emptied, the port becomes IDLE, the mark is cleared (R169). -/
def Port.consume (q : Port) : Port := { q with phase := .idle, slot := none, ignored := false }

/-- A port after a fetch: the response is consumed when its last byte has been clocked out; a fetch that ends before it,
or in IDLE or PENDING, changes nothing (R169). -/
def Port.afterFetch (q : Port) (count : Nat) : Port :=
  match q.phase, q.slot with
  | .ready, some r => if r.bytes.length ≤ count then q.consume else q
  | _, _ => q

/-- A fetch: the port state byte as it stands, then the bytes clocked out (R166, R167, R169). While RESET_N is asserted a
fetch returns nothing (R165). -/
def State.fetch (s : State) (p : PortId) (count : Nat) : State :=
  let q := s.port p
  if !s.pins.supply then s
  else if s.pins.resetAsserted then s.withPort p { q with driven := [] }
  else s.withPort p { q.afterFetch count with driven := q.stateByte :: q.clockedOut count }

/-- FETCH (R169). -/
def execFetch (p : PortId) (count : Nat) (s : State) : Result := .next (s.fetch p count)

/-- IGNORED_TRANSACTION: port state, slot and mark unchanged (R166). -/
def execIgnoredTransaction (bytes : List Byte) (s : State) : Result :=
  whenWellFormed (.ignoredTransaction bytes) (s.ignoreTransfer .line)

/-! ## The Set Port's bus (R167) -/

/-- What the part answers in the acknowledge bits that are its own in a Set Port transfer, true for an acknowledgement: the
address, and in a write transfer every byte written after it, whatever the port state, in STARTING too (R167). It answers
none of a transfer to another address, nor of any while RESET_N is asserted. The bytes of a read transfer are acknowledged
by the controller. -/
def State.acknowledgements (s : State) : SetTransfer → List Bool
  | .write a bytes => List.replicate (bytes.length + 1) (s.acknowledges a)
  | .read a _ => [s.acknowledges a]

/-- The command that a transfer on the Set Port's bus gives the part: none when its address is not acknowledged (R167,
log 39). -/
def State.transferCommand? (s : State) (t : SetTransfer) : Option Instr :=
  if s.acknowledges t.address then some (decodeTransfer t) else none

end Sys2Proof.Machine
end

