-- ==== Sys2Proof/Machine/StatusRequests.lean ====
section
/-! DEFINITION. READ_IDENTITY, READ_STATUS, READ_ATTENTION, SET_ATTENTION_MASK, RESET (chapter 11, R162). -/

namespace Sys2Proof.Machine

open Sys2Proof

/-- The payload of Read Identity (R177). -/
def identityPayload (fuse : Bool) : List Byte :=
  u16 Config.partCode ++ u8 Config.revision ++ u32 Config.tripleCapacity ++ u8 16 ++ u8 8 ++
    u8 Config.readingCapacity ++ u16 Config.updateCapacity ++ u8 8 ++ flagByte fuse

/-- The owning block of Read Identity: it changes nothing (R177). -/
def ownReadIdentity (_ : Call) (s : State) : Check Answer :=
  .ok (.reply .ok (identityPayload s.modes.fuse) s)

/-- READ_IDENTITY (R177). -/
def execReadIdentity (p : PortId) (bytes : List Byte) (s : State) : Result :=
  .next (s.serve { length := some 0, level := always 2, starting := true } p bytes ownReadIdentity)

/-- The held pattern as Read Status reports it (R104, R176). -/
def Detection.report : Detection → List Byte
  | .held pattern source beginFrame =>
    optional id (some (u8 pattern.tag ++ u8 pattern.kind.number ++ u16 pattern.level ++
      u8 (channelNumber pattern.channels) ++ u8 source.number ++ u32 beginFrame.toNat))
  | _ => u8 0

/-- Whether the guard runs (R176). -/
def Guard.isRunning : Guard → Bool
  | .stopped => false
  | .running _ => true

/-- The payload of Read Status, field by field (R176). -/
def statusPayload (s : State) : List Byte :=
  u8 s.modes.mode.number ++ u8 s.store.startUp.number ++ flagByte s.modes.fuse ++ flagByte s.modes.shipping ++
    flagByte s.store.dirty ++ u8 s.store.write.number ++ u8 s.store.lastResult.number ++
    optional u16 (s.regions.active?.map (·.code)) ++ optional u16 s.regions.pendingCode? ++
    s.detector.state.report ++ u8 s.timing.condition.number ++
    flagByte s.engine.lineBypass ++ flagByte s.engine.viewerBypass ++ flagByte s.engine.bypass ++
    u8 s.queue.hold.number ++ flagByte s.queue.guard.isRunning ++
    u8 s.conv.readings.length ++ u16 s.queue.entries.length ++ u32 s.timing.number.toNat ++ u8 s.modes.failures

/-- The owning block of Read Status: it changes nothing (R176). -/
def ownReadStatus (_ : Call) (s : State) : Check Answer := .ok (.reply .ok (statusPayload s) s)

/-- READ_STATUS (R176). -/
def execReadStatus (p : PortId) (bytes : List Byte) (s : State) : Result :=
  .next (s.serve { length := some 0, level := always 2, starting := true } p bytes ownReadStatus)

/-- The owning block of Read Attention: the port's flags and mask are reported, then its flags are cleared (R174). -/
def ownReadAttention (c : Call) (s : State) : Check Answer :=
  .ok (.reply .ok (u16 (s.attention.flags c.port).toNat ++ u16 (s.attention.maskOf c.port).toNat)
    { s with attention := s.attention.clear c.port })

/-- READ_ATTENTION (R174). -/
def execReadAttention (p : PortId) (bytes : List Byte) (s : State) : Result :=
  .next (s.serve { length := some 0, level := always 2 } p bytes ownReadAttention)

/-- The owning block of Set Attention Mask (R175). -/
def ownSetAttentionMask (c : Call) (s : State) : Check Answer := do
  let (mask, _) ← read16 c.payload
  require (mask < 2048) .badValue
  return .reply .ok (u16 mask ++ u16 (s.attention.flags c.port).toNat)
    { s with attention := s.attention.withMask (BitVec.ofNat 11 mask) c.port }

/-- SET_ATTENTION_MASK (R175). -/
def execSetAttentionMask (p : PortId) (bytes : List Byte) (s : State) : Result :=
  .next (s.serve { length := some 2, level := always 2 } p bytes ownSetAttentionMask)

/-- The owning block of Reset: BUSY while a save, a revocation write or Ship runs; else all volatile state is reset and no
reply is placed on either port (R149, R162). -/
def ownReset (_ : Call) (s : State) : Check Answer := do
  require (!s.writeRuns && !s.modes.shipping) .busy
  return .silent (s.volatileReset s.startUpAfterReset)

/-- RESET (R162). -/
def execReset (p : PortId) (bytes : List Byte) (s : State) : Result :=
  .next (s.serve { length := some 0, level := always 2 } p bytes ownReset)

end Sys2Proof.Machine
end

