-- ==== Sys2Proof/Machine/UpdateRequests.lean ====
section
/-! DEFINITION. WRITE_KNOTS, ADJUST_KNOT, PIN_AREA, UNPIN_AREA, RETIRE_KNOT, RESTORE_KNOT, HOLD_UPDATES, RELEASE_UPDATES,
STEP_UPDATES (chapter 3), SET_BYPASS (R37). -/

namespace Sys2Proof.Machine

open Sys2Proof

/-- The entries are placed (R42). -/
def State.place (s : State) (es : List Entry) : State := { s with queue := s.queue.place es }

/-- The queue's occupancy as a reply carries it (0..256). -/
def State.occupancyBytes (s : State) : List Byte := u16 s.queue.entries.length

/-! ## Write Knots -/

/-- What a Write Knots that passes its checks carries. -/
structure WriteRequest where
  row : Nat
  first : Nat
  count : Nat
  plane : Nat
  channels : ChannelSet
  values : List Byte
deriving DecidableEq, Repr

/-- The checks of Write Knots, in their order (R54; log 10 for a payload that ends before its fields). -/
def checkWriteKnots (payload : List Byte) (s : State) : Check WriteRequest := do
  let d ← checkEditing s
  let (row, payload) ← read16 payload
  let (first, payload) ← read16 payload
  let (count, payload) ← read8 payload
  require (1 ≤ count && count ≤ 16) .badValue
  let (plane, payload) ← read8 payload
  require (plane < d.planes) .badValue
  let (number, payload) ← read8 payload
  let channels ← requireSome (channelSet? number) .badValue
  require (payload.length == 2 * (count * channelCount channels)) .badLength
  require (row < d.rows && first + count ≤ d.columns) .outOfGrid
  require (count ≤ s.queue.free) .queueFull
  return { row := row, first := first, count := count, plane := plane, channels := channels, values := payload }

/-- The values of a run of knots, as carried, knot by knot in column order (R54). -/
def readRun (channels : ChannelSet) : Nat → List Byte → Check (List (Rgb (Option Int)))
  | 0, _ => .ok []
  | n + 1, bytes => do
    let (values, rest) ← readChannels readInt16 channels bytes
    let more ← readRun channels n rest
    return values :: more

/-- The WRITE entries of a run, with their values saturated, in column order (R55). -/
def writeEntries (row plane : Nat) : Nat → List (Rgb (Option Int)) → List Entry
  | _, [] => []
  | column, values :: more =>
    .write column row plane (values.map (Option.map saturate)) :: writeEntries row plane (column + 1) more

/-- How many values of a run were saturated (R55). -/
def saturatedCount (run : List (Rgb (Option Int))) : Nat :=
  (run.map (fun v => v.present.countP (fun x => saturate x != x))).sum

/-- The owning block of Write Knots (R54, R55). -/
def ownWriteKnots (c : Call) (s : State) : Check Answer := do
  let w ← checkWriteKnots c.payload s
  let run ← readRun w.channels w.count w.values
  let s' := s.place (writeEntries w.row w.plane w.first run)
  return .reply .ok (u8 w.count ++ u8 (saturatedCount run) ++ s'.occupancyBytes) s'

/-- WRITE_KNOTS (R54, R55). -/
def execWriteKnots (p : PortId) (bytes : List Byte) (s : State) : Result :=
  .next (s.serve { length := none, level := always 1 } p bytes ownWriteKnots)

/-! ## Adjust Knot -/

/-- One delta, within −16383..16383 (R56). -/
def readDelta (bytes : List Byte) : Check (Int × List Byte) := do
  let (delta, rest) ← readInt16 bytes
  require (-16383 ≤ delta && delta ≤ 16383) .badValue
  return (delta, rest)

/-- The checks of Adjust Knot, in their order (R56): the entry to place. -/
def checkAdjustKnot (payload : List Byte) (s : State) : Check Entry := do
  let d ← checkEditing s
  let (column, payload) ← read16 payload
  let (row, payload) ← read16 payload
  let (plane, payload) ← read8 payload
  require (plane < d.planes) .badValue
  let (number, payload) ← read8 payload
  let channels ← requireSome (channelSet? number) .badValue
  let (deltas, payload) ← readChannels readDelta channels payload
  require payload.isEmpty .badLength
  require (d.holds column row) .outOfGrid
  require (s.queue.hold == .released) .held
  require (1 ≤ s.queue.free) .queueFull
  return .adjust column row plane deltas

/-- The owning block of Adjust Knot: one ADJUST entry, and no reply yet (R57). -/
def ownAdjustKnot (c : Call) (s : State) : Check Answer := do
  let entry ← checkAdjustKnot c.payload s
  return .wait (s.place [entry])

/-- ADJUST_KNOT (R56, R57). -/
def execAdjustKnot (p : PortId) (bytes : List Byte) (s : State) : Result :=
  .next (s.serve { length := none, level := always 1 } p bytes ownAdjustKnot)

/-! ## Areas -/

/-- A rectangle of knots and a plane set, as Pin Area and Unpin Area carry them (R59). -/
structure Area where
  firstColumn : Nat
  firstRow : Nat
  lastColumn : Nat
  lastRow : Nat
  planes : BitVec 8
deriving DecidableEq, Repr

/-- How many knot-plane records an area covers (R59). -/
def Area.covers (a : Area) : Nat :=
  (a.lastColumn + 1 - a.firstColumn) * (a.lastRow + 1 - a.firstRow) *
    ((List.range 8).filter (planeIn a.planes)).length

/-- The checks of Pin Area and Unpin Area, in their order (R59). -/
def checkArea (payload : List Byte) (s : State) : Check Area := do
  let d ← checkEditing s
  let (firstColumn, payload) ← read16 payload
  let (firstRow, payload) ← read16 payload
  let (lastColumn, payload) ← read16 payload
  let (lastRow, payload) ← read16 payload
  let (planes, _) ← read8 payload
  require (planes != 0 && planes < 2 ^ d.planes && firstColumn ≤ lastColumn && firstRow ≤ lastRow) .badValue
  require (lastColumn < d.columns && lastRow < d.rows) .outOfGrid
  require (1 ≤ s.queue.free) .queueFull
  return { firstColumn := firstColumn, firstRow := firstRow, lastColumn := lastColumn, lastRow := lastRow,
           planes := BitVec.ofNat 8 planes }

/-- The owning block of Pin Area (R59). -/
def ownPinArea (c : Call) (s : State) : Check Answer := do
  let a ← checkArea c.payload s
  let s' := s.place [.pinArea a.firstColumn a.firstRow a.lastColumn a.lastRow a.planes]
  return .reply .ok (u32 a.covers ++ s'.occupancyBytes) s'

/-- PIN_AREA (R59). -/
def execPinArea (p : PortId) (bytes : List Byte) (s : State) : Result :=
  .next (s.serve { length := some 9, level := always 1 } p bytes ownPinArea)

/-- The owning block of Unpin Area (R59). -/
def ownUnpinArea (c : Call) (s : State) : Check Answer := do
  let a ← checkArea c.payload s
  let s' := s.place [.unpinArea a.firstColumn a.firstRow a.lastColumn a.lastRow a.planes]
  return .reply .ok (u32 a.covers ++ s'.occupancyBytes) s'

/-- UNPIN_AREA (R59). -/
def execUnpinArea (p : PortId) (bytes : List Byte) (s : State) : Result :=
  .next (s.serve { length := some 9, level := always 1 } p bytes ownUnpinArea)

/-! ## Retire and Restore Knot -/

/-- The checks of Retire Knot and Restore Knot, in their order: the column and the row (R60). -/
def checkKnot (payload : List Byte) (s : State) : Check (Nat × Nat) := do
  let d ← checkEditing s
  let (column, payload) ← read16 payload
  let (row, _) ← read16 payload
  require (d.holds column row) .outOfGrid
  require (1 ≤ s.queue.free) .queueFull
  return (column, row)

/-- The owning block of Retire Knot (R60). -/
def ownRetireKnot (c : Call) (s : State) : Check Answer := do
  let (column, row) ← checkKnot c.payload s
  let s' := s.place [.retire column row]
  return .reply .ok s'.occupancyBytes s'

/-- RETIRE_KNOT (R60). -/
def execRetireKnot (p : PortId) (bytes : List Byte) (s : State) : Result :=
  .next (s.serve { length := some 4, level := always 1 } p bytes ownRetireKnot)

/-- The owning block of Restore Knot (R60). -/
def ownRestoreKnot (c : Call) (s : State) : Check Answer := do
  let (column, row) ← checkKnot c.payload s
  let s' := s.place [.restore column row]
  return .reply .ok s'.occupancyBytes s'

/-- RESTORE_KNOT (R60). -/
def execRestoreKnot (p : PortId) (bytes : List Byte) (s : State) : Result :=
  .next (s.serve { length := some 4, level := always 1 } p bytes ownRestoreKnot)

/-! ## The hold -/

/-- The hold state is replaced. -/
def State.withHold (s : State) (h : HoldState) : State := { s with queue := { s.queue with hold := h } }

/-- The reply of the three hold requests: the hold state and the occupancy (R46, R47, R48). -/
def State.holdReply (s : State) : Answer := .reply .ok (u8 s.queue.hold.number ++ s.occupancyBytes) s

/-- The owning block of Hold Updates (R46). -/
def ownHoldUpdates (_ : Call) (s : State) : Check Answer := do
  require (!s.modes.shipping) .busy
  return (if s.queue.hold = .released then s.withHold .held else s).holdReply

/-- HOLD_UPDATES (R46). -/
def execHoldUpdates (p : PortId) (bytes : List Byte) (s : State) : Result :=
  .next (s.serve { length := some 0, level := always 1 } p bytes ownHoldUpdates)

/-- The owning block of Release Updates (R47). -/
def ownReleaseUpdates (_ : Call) (s : State) : Check Answer := do
  require (!s.modes.shipping) .busy
  return (s.withHold .released).holdReply

/-- RELEASE_UPDATES (R47). -/
def execReleaseUpdates (p : PortId) (bytes : List Byte) (s : State) : Result :=
  .next (s.serve { length := some 0, level := always 1 } p bytes ownReleaseUpdates)

/-- The owning block of Step Updates (R48). -/
def ownStepUpdates (_ : Call) (s : State) : Check Answer := do
  require (!s.modes.shipping) .busy
  require (s.queue.hold != .released) .notHeld
  return (s.withHold .stepPending).holdReply

/-- STEP_UPDATES (R48). -/
def execStepUpdates (p : PortId) (bytes : List Byte) (s : State) : Result :=
  .next (s.serve { length := some 0, level := always 1 } p bytes ownStepUpdates)

/-! ## Set Bypass -/

/-- Set Bypass changes the line bypass at level 0 or 1 and the viewer bypass at level 2 (R37). -/
def CorrectionEngine.setBypass (e : CorrectionEngine) (level : Nat) (on : Bool) : CorrectionEngine :=
  if level ≤ 1 then { e with lineBypass := on } else { e with viewerBypass := on }

/-- The owning block of Set Bypass (R37). -/
def ownSetBypass (c : Call) (s : State) : Check Answer := do
  let (value, _) ← read8 c.payload
  require (!s.modes.shipping) .busy
  require (value ≤ 1) .badValue
  let e := s.engine.setBypass c.level (value == 1)
  return .reply .ok
    (flagByte e.lineBypass ++ flagByte e.viewerBypass ++
      flagByte (effectiveBypass e.lineBypass e.viewerBypass s.regions.active?))
    { s with engine := e }

/-- SET_BYPASS (R37). -/
def execSetBypass (p : PortId) (bytes : List Byte) (s : State) : Result :=
  .next (s.serve { length := some 1, level := always 2 } p bytes ownSetBypass)

end Sys2Proof.Machine
end

