-- ==== Sys2Proof/Machine/Dispatch.lean ====
section
/-! DEFINITION. One arm for each command. -/

namespace Sys2Proof.Machine

open Sys2Proof

def exec (i : Instr) (s : State) : Host.Outcome State Fault Refusal :=
  match i with
  | .readIdentity p b => Sys2Proof.Machine.execReadIdentity p b s
  | .readStatus p b => Sys2Proof.Machine.execReadStatus p b s
  | .readAttention p b => Sys2Proof.Machine.execReadAttention p b s
  | .setAttentionMask p b => Sys2Proof.Machine.execSetAttentionMask p b s
  | .reset p b => Sys2Proof.Machine.execReset p b s
  | .defineGrid p b => Sys2Proof.Machine.execDefineGrid p b s
  | .readDescriptor p b => Sys2Proof.Machine.execReadDescriptor p b s
  | .readKnots p b => Sys2Proof.Machine.execReadKnots p b s
  | .writeKnots p b => Sys2Proof.Machine.execWriteKnots p b s
  | .adjustKnot p b => Sys2Proof.Machine.execAdjustKnot p b s
  | .pinArea p b => Sys2Proof.Machine.execPinArea p b s
  | .unpinArea p b => Sys2Proof.Machine.execUnpinArea p b s
  | .retireKnot p b => Sys2Proof.Machine.execRetireKnot p b s
  | .restoreKnot p b => Sys2Proof.Machine.execRestoreKnot p b s
  | .readSummary p b => Sys2Proof.Machine.execReadSummary p b s
  | .setBypass p b => Sys2Proof.Machine.execSetBypass p b s
  | .holdUpdates p b => Sys2Proof.Machine.execHoldUpdates p b s
  | .releaseUpdates p b => Sys2Proof.Machine.execReleaseUpdates p b s
  | .stepUpdates p b => Sys2Proof.Machine.execStepUpdates p b s
  | .setTargets p b => Sys2Proof.Machine.execSetTargets p b s
  | .setConvergence p b => Sys2Proof.Machine.execSetConvergence p b s
  | .submitReadings p b => Sys2Proof.Machine.execSubmitReadings p b s
  | .readConvergence p b => Sys2Proof.Machine.execReadConvergence p b s
  | .selectSource p b => Sys2Proof.Machine.execSelectSource p b s
  | .showPattern p b => Sys2Proof.Machine.execShowPattern p b s
  | .setPatternTiming p b => Sys2Proof.Machine.execSetPatternTiming p b s
  | .storeRegion p b => Sys2Proof.Machine.execStoreRegion p b s
  | .lookUpRegion p b => Sys2Proof.Machine.execLookUpRegion p b s
  | .selectRegion p b => Sys2Proof.Machine.execSelectRegion p b s
  | .retireRegion p b => Sys2Proof.Machine.execRetireRegion p b s
  | .eraseRegion p b => Sys2Proof.Machine.execEraseRegion p b s
  | .readRegions p b => Sys2Proof.Machine.execReadRegions p b s
  | .beginLoad p b => Sys2Proof.Machine.execBeginLoad p b s
  | .loadChunk p b => Sys2Proof.Machine.execLoadChunk p b s
  | .endLoad p b => Sys2Proof.Machine.execEndLoad p b s
  | .abortLoad p b => Sys2Proof.Machine.execAbortLoad p b s
  | .readSlot p b => Sys2Proof.Machine.execReadSlot p b s
  | .fetchKey p b => Sys2Proof.Machine.execFetchKey p b s
  | .revokeSlot p b => Sys2Proof.Machine.execRevokeSlot p b s
  | .eraseSlot p b => Sys2Proof.Machine.execEraseSlot p b s
  | .saveImage p b => Sys2Proof.Machine.execSaveImage p b s
  | .ship p b => Sys2Proof.Machine.execShip p b s
  | .reopen p b => Sys2Proof.Machine.execReopen p b s
  | .unknownRequest p c b => Sys2Proof.Machine.execUnknownRequest p c b s
  | .ignoredFrame p f => Sys2Proof.Machine.execIgnoredFrame p f s
  | .fetch p n => Sys2Proof.Machine.execFetch p n s
  | .ignoredTransaction b => Sys2Proof.Machine.execIgnoredTransaction b s
  | .powerOnReset => Sys2Proof.Machine.execPowerOnReset s
  | .resetLineAsserted => Sys2Proof.Machine.execResetLineAsserted s
  | .resetLineReleased => Sys2Proof.Machine.execResetLineReleased s
  | .inputAppears => Sys2Proof.Machine.execInputAppears s
  | .inputLost => Sys2Proof.Machine.execInputLost s
  | .inputFrameStart f => Sys2Proof.Machine.execInputFrameStart f s
  | .frameStart o => Sys2Proof.Machine.execFrameStart o s
  | .guardExpiry => Sys2Proof.Machine.execGuardExpiry s
  | .gapExpiry => Sys2Proof.Machine.execGapExpiry s
  | .holdingStart => Sys2Proof.Machine.execHoldingStart s
  | .holdingEnd => Sys2Proof.Machine.execHoldingEnd s
  | .examineReading => Sys2Proof.Machine.execExamineReading s
  | .saveCompletion r => Sys2Proof.Machine.execSaveCompletion r s
  | .revocationWriteCompletion r => Sys2Proof.Machine.execRevocationWriteCompletion r s
  | .startUpLoadCompletion => Sys2Proof.Machine.execStartUpLoadCompletion s
  | .supplyLost => Sys2Proof.Machine.execSupplyLost s

end Sys2Proof.Machine
end

