-- ==== Sys2Proof/Machine/Pixels.lean ====
section
/-! DEFINITION. The output video as a function of the state: the arithmetic of correction (R28 to R33), uncorrected, black
and STARTING output (R27, R34, R35), and the frames the Pattern Generator draws (R93). The link's pixel codes are not
state: a pixel's input code is an argument (log 38). -/

namespace Sys2Proof.Machine

open Sys2Proof

/-! ## Correction (2.2) -/

/-- The applied trim of a channel at a knot and plane; 0 where the collection has no such record, as for the rest of a frame
after Define Grid (R25, R30). -/
def GridStore.trimAt (g : GridStore) (d : Descriptor) (ch : Channel) (column row plane : Nat) : Int :=
  match g.record? d plane row column with
  | none => 0
  | some r => r.trim.get ch

/-- The bilinear step: the trim of a plane at a pixel (R29, R30). -/
def bilinear (d : Descriptor) (trim : Nat → Nat → Int) (x y : Nat) : Int :=
  let S : Int := d.spacing
  let i := x / d.spacing
  let j := y / d.spacing
  let fx : Int := x % d.spacing
  let fy : Int := y % d.spacing
  let a := trim i j * (S - fx) + trim (i + 1) j * fx
  let b := trim i (j + 1) * (S - fx) + trim (i + 1) (j + 1) * fx
  roundDiv (a * (S - fy) + b * fy) (S * S)

/-- The level step: the planes combined according to where the input code falls among the plane levels, from plane `p` on
(R31). -/
def levelTrim (planeTrim : Nat → Int) (v : Nat) : Nat → List Nat → Int
  | _, [] => 0
  | p, [_] => planeTrim p
  | p, low :: high :: rest =>
    if v ≤ low then planeTrim p
    else if v < high then
      planeTrim p + roundDiv ((planeTrim (p + 1) - planeTrim p) * ((v : Int) - low)) ((high : Int) - low)
    else levelTrim planeTrim v (p + 1) (high :: rest)

/-- The single trim of a channel at a pixel (R31). -/
def GridStore.pixelTrim (g : GridStore) (d : Descriptor) (ch : Channel) (x y v : Nat) : Int :=
  levelTrim (fun p => bilinear d (fun c r => g.trimAt d ch c r p) x y) v 0 d.levels

/-- The application step: the code with its trim applied, clamped into 0..ceiling (R32). -/
def applyTrim (ceiling v : Nat) (t : Int) : Nat := (clampInt 0 ceiling (v + roundDiv (v * t) 32768)).toNat

/-- What the Correction Engine makes of an input code at a pixel (R27, R32, R34, R35). -/
def State.engineCode (s : State) (ch : Channel) (x y v : Nat) : Nat :=
  match s.engine.treatment with
  | .starting => min v 1023
  | .black => 0
  | .uncorrected => min v s.engine.ceiling
  | .corrected =>
    match s.engine.latched with
    | none => min v s.engine.ceiling
    | some d => applyTrim s.engine.ceiling v (s.grid.pixelTrim d ch x y v)

/-! ## Generated frames (R93) -/

/-- The code the generator draws on a channel at column x of a frame of the given width (R93). -/
def GeneratorPattern.code (g : GeneratorPattern) (width : Nat) (ch : Channel) (x : Nat) : Nat :=
  match g with
  | .stopped => 0
  | .test p =>
    if p.channels.get ch then
      match p.kind with
      | .flat => p.level
      | .ramp => p.level * x / (width - 1)
    else 0

/-! ## Output -/

/-- The output code of a pixel of the frame in progress that is still to be output, on a channel, with the input code the
link carries there. None where no pixel is output: without supply, before the first frame start, outside the frame's active
area, which a reset does not change (R27, R113), and in a frame that is vertical blanking only (R114). -/
def State.outputCode (s : State) (ch : Channel) (x y inputCode : Nat) : Option Nat :=
  match s.timing.frame with
  | none => none
  | some f =>
    if !s.pins.supply then none
    else if f.width ≤ x ∨ f.height ≤ y then none
    else if f.cutOff then some 0
    else
      match f.content with
      | .blanking => none
      | .black => some 0
      | .input _ => some (s.engineCode ch x y inputCode)
      | .generated =>
        if s.engine.treatment = .starting then some 0
        else
          match s.generator.shown with
          | none => some 0
          | some g => some (s.engineCode ch x y (g.code f.width ch x))

end Sys2Proof.Machine
end

