-- ==== Sys2Proof/Safety.lean ====
section
/-! DEFINITION. The words the statements use: frames as a requester writes them, a request that reaches its owning block,
the table of the requests' levels and lengths, and the invariants of the part's records. -/

namespace Sys2Proof.Machine

open Sys2Proof

/-! ## Requests -/

/-- The bytes after the code of a request frame (R170). -/
def frameOf (level tag : Byte) (payload : List Byte) : List Byte :=
  Header.bytes { level := level, tag := tag, payload := payload }

/-- The port takes a complete frame: the part is powered, RESET_N is released, the port is not PENDING (R165). -/
abbrev State.listens (s : State) (p : PortId) : Prop := s.deaf = false ∧ (s.port p).phase ≠ .pending

/-- A request of the required level, of sound length, passes the port's own checks (R168): the port takes it, the part is
READY, and the effective level does not exceed the required one (R144). -/
abbrev State.admits (s : State) (p : PortId) (level : Byte) (required : Nat) : Prop :=
  s.listens p ∧ s.store.startUp = .ready ∧ s.effectiveLevel p level ≤ required

/-- A row of the requests: its code (R170), the level it requires (R145) and the payload length the port checks (R171). -/
structure RequestRow where
  code : Nat
  level : Nat
  length : Option Nat
deriving DecidableEq, Repr

/-- The requests whose required level depends on nothing but the request (R145, R170, R171). Begin Load, Load Chunk, End
Load and Abort Load are not among them (R129). -/
def requestRows : List RequestRow :=
  [⟨0x01, 2, some 0⟩, ⟨0x02, 2, some 0⟩, ⟨0x03, 2, some 0⟩, ⟨0x04, 2, some 2⟩, ⟨0x05, 2, some 0⟩,
   ⟨0x10, 1, none⟩, ⟨0x11, 2, some 0⟩, ⟨0x12, 2, some 6⟩, ⟨0x13, 1, none⟩, ⟨0x14, 1, none⟩,
   ⟨0x15, 1, some 9⟩, ⟨0x16, 1, some 9⟩, ⟨0x17, 1, some 4⟩, ⟨0x18, 1, some 4⟩, ⟨0x19, 2, some 0⟩,
   ⟨0x1A, 2, some 1⟩, ⟨0x1B, 1, some 0⟩, ⟨0x1C, 1, some 0⟩, ⟨0x1D, 1, some 0⟩,
   ⟨0x20, 1, some 7⟩, ⟨0x21, 1, some 7⟩, ⟨0x22, 1, none⟩, ⟨0x23, 2, some 0⟩,
   ⟨0x30, 1, some 1⟩, ⟨0x31, 1, some 5⟩, ⟨0x32, 1, some 4⟩,
   ⟨0x40, 0, some 8⟩, ⟨0x41, 2, some 2⟩, ⟨0x42, 1, some 2⟩, ⟨0x43, 0, some 2⟩, ⟨0x44, 0, some 1⟩, ⟨0x45, 2, some 0⟩,
   ⟨0x54, 2, some 1⟩, ⟨0x55, 2, some 3⟩, ⟨0x56, 2, some 1⟩, ⟨0x57, 1, some 1⟩,
   ⟨0x60, 1, some 0⟩, ⟨0x61, 1, some 1⟩, ⟨0x62, 2, none⟩]

/-- The payload length is one the port lets pass for the request (R168, check 3). -/
abbrev RequestRow.lengthPasses (r : RequestRow) (payload : List Byte) : Prop :=
  ∀ n, r.length = some n → payload.length = n

/-- A command that is one of the three resets, or a loss of the supply (R162). -/
def isResetEvent : Instr → Bool
  | .powerOnReset => true
  | .resetLineAsserted => true
  | .supplyLost => true
  | .reset _ _ => true
  | _ => false

/-- A command at which entries may be applied, the grid is defined, or records are lost or restored. -/
def mayChangeRecords : Instr → Bool
  | .frameStart _ => true
  | .inputFrameStart _ => true
  | .defineGrid _ _ => true
  | .startUpLoadCompletion => true
  | i => isResetEvent i

/-- A Read Attention on the port. -/
def readsAttention (p : PortId) : Instr → Bool
  | .readAttention q _ => p == q
  | _ => false

/-! ## Fields by channel -/

/-- A channel set names at least one channel (00, "Channels"). -/
abbrev someChannel (c : ChannelSet) : Prop := c.r = true ∨ c.g = true ∨ c.b = true

/-- The values a request carries for the channels of its set. -/
def carried {α : Type} (c : ChannelSet) (v : Rgb α) : Rgb (Option α) where
  r := if c.r then some v.r else none
  g := if c.g then some v.g else none
  b := if c.b then some v.b else none

/-- One field for each channel of the set, in the order R, G, B. -/
def channelFields {α : Type} (field : α → List Byte) (c : ChannelSet) (v : Rgb α) : List Byte :=
  (if c.r then field v.r else []) ++ (if c.g then field v.g else []) ++ (if c.b then field v.b else [])

/-- Something holds of every channel's value. -/
abbrev everyChannel {α : Type} (holds : α → Prop) (v : Rgb α) : Prop := holds v.r ∧ holds v.g ∧ holds v.b

/-! ## Records -/

/-- The place of the record of knot (column, row) at a plane in the collection ordered by (plane, row, column) (R5). -/
abbrev recordPlace (d : Descriptor) (plane row column : Nat) : Nat := (plane * d.rows + row) * d.columns + column

/-! ## Frame starts -/

/-- A frame start of this origin is due: the part is powered, and frame starts come from the input link or not, as the
origin says (R113, R114). -/
abbrev State.frameStartDue (s : State) (o : FrameOrigin) : Prop :=
  match o with
  | .internal => s.pins.supply = true ∧ s.followsInput = false
  | .input f => f.wellFormed = true ∧ s.pins.supply = true ∧ s.followsInput = true

/-! ## Reset -/

/-- Both ports, the queues and every other block's volatile state at the values their rules give for a reset, with what a
reset keeps carried over from `s` (R22, R40, R46, R50, R64, R66, R73, R81, R90, R92, R97, R105, R109, R124, R129, R143,
R160, R162, R165, R167, R173). The frame in progress and its timing are those the Frame Timing Unit's rules leave (R114). -/
def State.atResetValues (s : State) (startUp : StartUp) (failures : Nat) (timing : FrameTiming) : State where
  pending := s.pending
  pins := { s.pins with address := if s.pins.adselHigh then 0x3D else 0x3C }
  grid := { descriptor := none, records := [], counts := [], writeSkip := 0, allConverged := false }
  queue := { entries := [], hold := .released, guard := .stopped }
  engine :=
    { treatment := .starting, latched := none, ceiling := 1023, bypass := false,
      lineBypass := false, viewerBypass := false }
  conv :=
    { targets := Vector.replicate 8 { r := 0, g := 0, b := 0 },
      parameters := { coefficient := 128, stepLimit := 1024, tolerance := 8, settleCount := 3 },
      readings := [], processed := 0, stale := 0, ignored := 0 }
  generator := { effective := .external, requested := .external, stored := .stopped, shown := none }
  detector := { state := .none, settleTime := 100, guardTime := 0 }
  timing := timing
  regions := { profiles := Vector.replicate 8 .empty, selection := none }
  creds := { slots := Vector.replicate 16 .empty, loading := none }
  modes :=
    { mode := if s.modes.fuse then .field else .factory, fuse := s.modes.fuse, failures := failures,
      shipping := false, boundByShip := [] }
  store := { image := s.store.image, write := .idle, lastResult := .none, dirty := false, startUp := startUp }
  linePort := { phase := .idle, slot := none, ignored := false, tag := 0, driven := [] }
  setPort := { phase := .idle, slot := none, ignored := false, tag := 0, driven := [] }
  attention := { lineFlags := 0, setFlags := 0, lineMask := 0x7FF, setMask := 0x7FF }
  book := { judgement := .notTaken, guardFresh := false, freeCount := s.book.freeCount }

/-- The frame timing right after a reset, on a part whose frame in progress goes on (R109, R114): frame number 0, F60 at its
first step, INPUT condition ABSENT. -/
def FrameTiming.atResetValues (source : TimingSource) (frame : Option Frame) (tail : Bool) : FrameTiming where
  number := 0
  family := .f60
  phase := 0
  source := source
  condition := .absent
  frame := frame
  internalTail := tail

/-! ## Invariants of the records -/

/-- A trim is −8192..+8191 (R4). -/
abbrev trimInRange (t : Int) : Prop := -8192 ≤ t ∧ t ≤ 8191

/-- Every channel's trim is in range. -/
abbrev trimsInRange (t : Rgb Int) : Prop := trimInRange t.r ∧ trimInRange t.g ∧ trimInRange t.b

/-- Every channel's hit count is 0..15 (R4). -/
abbrev hitsInRange (h : Rgb Nat) : Prop := h.r ≤ 15 ∧ h.g ≤ 15 ∧ h.b ≤ 15

/-- A value a WRITE entry carries is already within the trim range (R41). -/
abbrev valueInRange (v : Option Int) : Prop := ∀ t, v = some t → trimInRange t

/-- What a waiting entry would give a record is in range (R41). -/
abbrev Entry.inRange (e : Entry) : Prop :=
  match e with
  | .write _ _ _ v => valueInRange v.r ∧ valueInRange v.g ∧ valueInRange v.b
  | .converge _ _ _ trim hits _ _ => trimsInRange trim ∧ hitsInRange hits
  | _ => True

/-- The loop parameters are in their ranges (R66). -/
abbrev LoopParameters.inRange (l : LoopParameters) : Prop :=
  (1 ≤ l.coefficient ∧ l.coefficient ≤ 256) ∧ (1 ≤ l.stepLimit ∧ l.stepLimit ≤ 8191) ∧
    (1 ≤ l.tolerance ∧ l.tolerance ≤ 255) ∧ (1 ≤ l.settleCount ∧ l.settleCount ≤ 15)

/-- The contents of the image, if it is COMPLETE (R156). -/
def Image.contents? : Image → Option ImageContents
  | .complete c => some c
  | _ => none

/-- The contents a running save writes (R158). -/
def WriteState.contents? : WriteState → Option ImageContents
  | .saving c => some c
  | _ => none

/-- Something holds of the contents of a COMPLETE image and of the contents a running save writes. -/
def ImageController.contentsSatisfy (c : ImageController) (good : ImageContents → Prop) : Prop :=
  (∀ x, c.image.contents? = some x → good x) ∧ (∀ x, c.write.contents? = some x → good x)

/-- The contents of an image are those of the records as they stand, a LOADING slot taken as EMPTY (R156, R158). -/
def holdsRecordsOf (x : ImageContents) (s : State) : Prop :=
  (s.grid.descriptor = none → x.grid = none) ∧
    (∀ d, s.grid.descriptor = some d →
      x.grid = some (d, s.grid.records.map (fun r => { trim := r.trim, state := r.state }))) ∧
    x.profiles = s.regions.profiles ∧
    (∀ i : Fin 16, x.slots[i] = if s.creds.slots[i].isLoading then .empty else s.creds.slots[i])

/-- Every trim of saved records is in range. -/
def ImageContents.trimsSound (c : ImageContents) : Prop :=
  ∀ d records, c.grid = some (d, records) → ∀ r ∈ records, trimsInRange r.trim

/-- Trims and hits in range everywhere the part keeps them (R4, R41, R66, R156). -/
def State.trimsSound (s : State) : Prop :=
  (∀ r ∈ s.grid.records, trimsInRange r.trim ∧ hitsInRange r.hits) ∧
    (∀ e ∈ s.queue.entries, e.inRange) ∧ s.conv.parameters.inRange ∧
    s.store.contentsSatisfy ImageContents.trimsSound

/-- Neither queue passes its limit (R40, R73). -/
abbrev State.queuesBounded (s : State) : Prop := s.queue.entries.length ≤ 256 ∧ s.conv.readings.length ≤ 64

/-- The descriptor is one that Define Grid takes (R1, R3, R16). -/
abbrev Descriptor.sound (d : Descriptor) : Prop :=
  (640 ≤ d.width ∧ d.width ≤ 7680) ∧ (360 ≤ d.height ∧ d.height ≤ 4320) ∧ (5 ≤ d.exponent ∧ d.exponent ≤ 8) ∧
    (1 ≤ d.levels.length ∧ d.levels.length ≤ 8) ∧ (∀ l ∈ d.levels, l ≤ 1023) ∧ d.levels.Pairwise (· < ·) ∧
    d.triples ≤ 131072

/-- Saved records are those of their descriptor (R5, R156). -/
def ImageContents.gridSound (c : ImageContents) : Prop :=
  ∀ d records, c.grid = some (d, records) → d.sound ∧ records.length = d.triples

/-- The collection has exactly one record for each knot and plane of a sound descriptor, and none without one (R5). -/
def GridStore.shapeSound (g : GridStore) : Prop :=
  (g.descriptor = none → g.records = []) ∧
    (∀ d, g.descriptor = some d → d.sound ∧ g.records.length = d.triples)

/-- The shape of the collection, in the Grid Store and in every image. -/
def State.gridSound (s : State) : Prop :=
  s.grid.shapeSound ∧ s.store.contentsSatisfy ImageContents.gridSound

/-- The entry names a knot, or an area of knots, of the grid, and planes of it (R54, R56, R59, R60, R69). -/
def Entry.within (e : Entry) (d : Descriptor) : Prop :=
  match e with
  | .write c r p _ => c < d.columns ∧ r < d.rows ∧ p < d.planes
  | .adjust c r p _ => c < d.columns ∧ r < d.rows ∧ p < d.planes
  | .converge c r p .. => c < d.columns ∧ r < d.rows ∧ p < d.planes
  | .pinArea _ _ c1 r1 _ => c1 < d.columns ∧ r1 < d.rows
  | .unpinArea _ _ c1 r1 _ => c1 < d.columns ∧ r1 < d.rows
  | .retire c r => c < d.columns ∧ r < d.rows
  | .restore c r => c < d.columns ∧ r < d.rows

/-- What waits in the two queues names knots and planes of the grid; without a grid nothing waits. -/
def State.queuesWithinGrid (s : State) : Prop :=
  match s.grid.descriptor with
  | none => s.queue.entries = [] ∧ s.conv.readings = []
  | some d =>
    (∀ e ∈ s.queue.entries, e.within d) ∧
      (∀ q ∈ s.conv.readings, q.column < d.columns ∧ q.row < d.rows ∧ q.plane < d.planes)

/-- While the part is STARTING, and while its ports take no frame, nothing runs and nothing waits (R162, R163, R165). -/
abbrev State.startSound (s : State) : Prop :=
  (s.store.startUp = .ready ∧ s.deaf = false) ∨
    (s.store.write = .idle ∧ s.queue.entries = [] ∧ s.conv.readings = [] ∧ s.creds.loading = none)

/-- The counts of each plane are those of its records (R13). -/
def GridStore.countsSound (g : GridStore) : Prop :=
  (g.descriptor = none → g.counts = []) ∧ (∀ d, g.descriptor = some d → g.counts = countsOf d g.records)

/-- Mode and fuse agree, the failure count is 0..3, and the shipping indicator is set just while the save that Ship runs
(R143, R148, R154). -/
abbrev State.modesSound (s : State) : Prop :=
  (s.modes.mode = .factory ↔ s.modes.fuse = false) ∧ s.modes.failures ≤ 3 ∧
    (s.modes.shipping = true → s.saveRuns = true ∧ s.modes.mode ≠ .field) ∧
    (s.modes.shipping = false → s.modes.boundByShip = [])

/-- A region profile's fields are in their ranges (R116). -/
abbrev Region.sound (r : Region) : Prop := (1 ≤ r.code ∧ r.code ≤ 999) ∧ (512 ≤ r.ceiling ∧ r.ceiling ≤ 1023)

/-- Eight profiles: fields in range, no region code twice, at most one ACTIVE (R116). -/
def profilesSound (v : Vector Profile 8) : Prop :=
  (∀ i : Fin 8, ∀ st r, v[i] = .held st r → r.sound) ∧
    (∀ i j : Fin 8, ∀ a b x y, v[i] = .held a x → v[j] = .held b y → x.code = y.code → i = j) ∧
    (∀ i j : Fin 8, ∀ x y, v[i] = .held .active x → v[j] = .held .active y → i = j)

/-- The Region Table is sound, and its pending selection names a STORED profile (R116, R119); so are the profiles of the
image. -/
def State.regionsSound (s : State) : Prop :=
  profilesSound s.regions.profiles ∧
    (∀ i, s.regions.selection = some i → ∃ r, s.regions.profiles[i] = .held .stored r) ∧
    s.store.contentsSatisfy (fun c => profilesSound c.profiles)

/-- The declared length is one the class allows (R125, R126). -/
abbrev lengthSound (class_ : KeyClass) (declared : Nat) : Prop :=
  (16 ≤ declared ∧ declared ≤ 1024 ∧ declared % 16 = 0) ∧ (class_ = .service → declared = 32)

/-- A slot's lengths, data and check value agree (R125, R128, R129). -/
def Slot.sound : Slot → Prop
  | .empty => True
  | .loading c n d => lengthSound c n ∧ d.length ≤ n
  | .loaded c n d k => lengthSound c n ∧ d.length = n ∧ k = checkValue d
  | .bound c n d k => lengthSound c n ∧ d.length = n ∧ k = checkValue d
  | .revoked c n _ => lengthSound c n

/-- Sixteen sound slots, at most one of class SERVICE in a state other than EMPTY (R125, R126). -/
def slotsSound (v : Vector Slot 16) : Prop :=
  (∀ i : Fin 16, v[i].sound) ∧
    (∀ i j : Fin 16, v[i].class? = some .service → v[j].class? = some .service → i = j)

/-- The Credential Table is sound: the loading context names the one slot that is LOADING, its gap timer is below 2000 ms,
and the slot a revocation write runs for is REVOKED and not of class SERVICE (R125, R126, R129, R140); so are the slots of
the image. -/
def State.credentialsSound (s : State) : Prop :=
  slotsSound s.creds.slots ∧
    (∀ i : Fin 16, s.creds.slots[i].isLoading = true ↔ ∃ l, s.creds.loading = some l ∧ l.slot = i) ∧
    (∀ l, s.creds.loading = some l → l.gap < 2000) ∧
    (∀ p i, s.store.write = .revoking p i →
      s.creds.slots[i].isRevoked = true ∧ s.creds.slots[i].class? ≠ some .service) ∧
    s.store.contentsSatisfy (fun c => slotsSound c.slots ∧ ∀ i : Fin 16, c.slots[i].isLoading = false)

/-- The entry is an ADJUST entry. -/
def Entry.isAdjust : Entry → Bool
  | .adjust .. => true
  | _ => false

/-- A port holds a response exactly while it is READY (R165). -/
abbrev Port.sound (q : Port) : Prop := q.phase = .ready ↔ q.slot.isSome = true

/-- Every reply that is still to come has a port that waits for it, and one owner: at most one ADJUST entry waits, and
while it does, or while Ship or a revocation write runs, the port it was taken on is PENDING (R57, R139, R148, R165). -/
def State.repliesSound (s : State) : Prop :=
  s.linePort.sound ∧ s.setPort.sound ∧ s.queue.entries.countP Entry.isAdjust ≤ 1 ∧
    ((∃ e ∈ s.queue.entries, e.isAdjust = true) →
      s.linePort.phase = .pending ∧ s.modes.shipping = false ∧ ∀ i, s.store.write ≠ .revoking .line i) ∧
    (s.modes.shipping = true → s.saveRuns = true ∧ s.linePort.phase = .pending) ∧
    (∀ p i, s.store.write = .revoking p i → (s.port p).phase = .pending)

/-- Every timer is below the bound that ends it, and the times it is compared with are at most 2000 ms (R50, R97, R105,
R106, R129). -/
def State.timersSound (s : State) : Prop :=
  s.detector.settleTime ≤ 2000 ∧ s.detector.guardTime ≤ 2000 ∧
    (∀ c src acc, s.detector.state = .settling c src acc → acc < 2000) ∧
    (∀ acc, s.queue.guard = .running acc → acc < 2000) ∧
    (∀ l, s.creds.loading = some l → l.gap < 2000)

/-- The ceiling latched for the frame in progress, and every profile's, lies between 512 and 1023 (R22, R32, R116). -/
def State.ceilingsSound (s : State) : Prop :=
  (512 ≤ s.engine.ceiling ∧ s.engine.ceiling ≤ 1023) ∧
    (∀ i : Fin 8, ∀ st r, s.regions.profiles[i] = .held st r → 512 ≤ r.ceiling ∧ r.ceiling ≤ 1023) ∧
    s.store.contentsSatisfy
      (fun c => ∀ i : Fin 8, ∀ st r, c.profiles[i] = .held st r → 512 ≤ r.ceiling ∧ r.ceiling ≤ 1023)

end Sys2Proof.Machine
end

