-- ==== Sys2Proof/Certificates/Slice0/Obligations.lean ====
section
/-! DEFINITION. The statements for the provers. Each docstring names the rules of spec/ it formalises; where a statement
rests on a choice of the model, it names the log entry. -/

open Sys2Proof Sys2Proof.Machine

/-! ## Commands, frames and ports -/

/-- A step with a command at the front of the queue is that command's execution with the queue's rest. -/
def Obligations.StepTakesTheFrontCommand : Prop :=
  ∀ (c : Instr) (rest : List Instr) (s : State),
    step { s with pending := c :: rest } = exec c { s with pending := rest }

/-- A command leaves the waiting commands alone, and it is refused only as a term that is no command of its row: the model's
choice (log 34). -/
def Obligations.CommandsKeepTheQueueAndComplete : Prop :=
  ∀ (c : Instr) (s : State),
    (wellFormed c = true → ∃ t, exec c s = .next t ∧ t.pending = s.pending) ∧
      (wellFormed c = false → exec c s = .refused .illFormed)

/-- Reading a frame's bytes and writing a command's bytes undo each other, on either port (R168, R170): no byte of a frame is
dropped. -/
def Obligations.FramesAndCommandsAgree : Prop :=
  (∀ (i : Instr) (p : PortId) (b : List Byte),
    wellFormed i = true → frameBytes i = some b → framePort i = some p → decodeFrame p b = i) ∧
  (∀ (p : PortId) (b : List Byte),
    wellFormed (decodeFrame p b) = true ∧ frameBytes (decodeFrame p b) = some b ∧
      framePort (decodeFrame p b) = some p)

/-- Frames and transactions that no port takes: ignored outright (R166, R168), met while PENDING, which sets the ignored
mark and nothing else (R165), or met while the ports take no frame (R165; without supply, log 19). Nothing else changes but
the model's record of the bytes a fetch put out (log 27). LSDO carries 0x00 throughout a transaction that is no fetch, and a
byte that a transaction ends part way through is discarded (R166). -/
def Obligations.UntakenFramesLeaveTheirMarks : Prop :=
  (∀ (s : State) (p : PortId),
    (∀ frame, ignoredOutright frame = true →
      exec (.ignoredFrame p frame) s = .next (if s.deaf then s else s.withPort p { s.port p with driven := [] })) ∧
    (∀ bytes, ignoredDirection bytes = true →
      exec (.ignoredTransaction bytes) s =
        .next (if s.deaf then s else { s with linePort := { s.linePort with driven := [] } })) ∧
    (s.deaf = true → ∀ frame, exec (decodeFrame p frame) s = .next s) ∧
    (s.deaf = false → (s.port p).phase = .pending → ∀ code bytes, neverRequest code = false →
      exec (decodeFrame p (code :: bytes)) s =
        .next (s.withPort p { s.port p with ignored := true, driven := [] })) ∧
    (s.deaf = false → ∀ (direction : Byte) (k : Nat), direction ≠ 0xA5 → s.lsdo direction k = some 0)) ∧
  (∀ (bytes : List Byte) (cut : List Bool), cut.length < 8 →
    decodeBits (bytes.flatMap (fun b => (List.range 8).map b.getMsbD) ++ cut) = decodeTransaction bytes) ∧
  decodeTransaction [0x5A] = .ignoredFrame .line []

/-- Check 3 of R168 on a frame that a port takes: shorter than its header, a stated payload length above 256, another number
of bytes than stated, or another payload length than the request's fields have (R171): BAD_LENGTH, before the code is
looked at. A sound frame with an unassigned code is answered UNKNOWN_REQUEST (check 4). The tag is echoed, or 0. -/
def Obligations.UnsoundFramesAnswerBadLength : Prop :=
  ∀ (s : State) (p : PortId) (code : Byte), s.listens p → neverRequest code = false →
    (∀ bytes : List Byte, bytes.length < 4 →
      exec (decodeFrame p (code :: bytes)) s = .next (s.answered p (bytes[1]?.getD 0) .badLength [])) ∧
    (∀ (level tag lo hi : Byte) (payload : List Byte),
      256 < lo.toNat + 256 * hi.toNat ∨ payload.length ≠ lo.toNat + 256 * hi.toNat →
      exec (decodeFrame p (code :: level :: tag :: lo :: hi :: payload)) s = .next (s.answered p tag .badLength [])) ∧
    (∀ (row : RequestRow) (n : Nat) (level tag : Byte) (payload : List Byte),
      row ∈ requestRows ++ [⟨0x50, 1, some 4⟩, ⟨0x53, 1, some 1⟩] → row.code = code.toNat → row.length = some n →
      payload.length ≠ n → payload.length ≤ 256 →
      exec (decodeFrame p (code :: frameOf level tag payload)) s = .next (s.answered p tag .badLength [])) ∧
    (∀ (level tag : Byte) (payload : List Byte), assignedCodes.contains code.toNat = false → payload.length ≤ 256 →
      exec (.unknownRequest p code (frameOf level tag payload)) s = .next (s.answered p tag .unknownRequest []))

/-- Checks 5 and 6 of R168 on a sound frame: STARTING for every request but Read Identity and Read Status; PRIVILEGE where
the effective level, the larger of the requested level and the port's floor, exceeds the required one (R144, R145). The
required level of a loading request is 0 where its class field, or the LOADING slot it names, is of class SERVICE, and 1
otherwise (R129). -/
def Obligations.StartingAndPrivilegeRefuse : Prop :=
  ∀ (s : State) (p : PortId) (code level tag : Byte) (payload : List Byte), s.listens p → payload.length ≤ 256 →
    (∀ row ∈ requestRows, row.code = code.toNat → row.lengthPasses payload →
      (s.store.startUp ≠ .ready → 2 < code.toNat →
        exec (decodeFrame p (code :: frameOf level tag payload)) s = .next (s.answered p tag .starting [])) ∧
      (s.store.startUp = .ready ∨ code.toNat ≤ 2 → row.level < max level.toNat (floor s.modes.mode p) →
        exec (decodeFrame p (code :: frameOf level tag payload)) s = .next (s.answered p tag .privilege []))) ∧
    (∀ status : Status,
      (s.store.startUp ≠ .ready ∧ status = .starting) ∨
        (s.store.startUp = .ready ∧ 1 < max level.toNat (floor s.modes.mode p) ∧ status = .privilege) →
      (payload.length = 4 → exec (.beginLoad p (frameOf level tag payload)) s = .next (s.answered p tag status [])) ∧
      exec (.loadChunk p (frameOf level tag payload)) s = .next (s.answered p tag status []) ∧
      exec (.endLoad p (frameOf level tag payload)) s = .next (s.answered p tag status []) ∧
      (payload.length = 1 → exec (.abortLoad p (frameOf level tag payload)) s = .next (s.answered p tag status []))) ∧
    (s.store.startUp = .ready → 0 < max level.toNat (floor s.modes.mode p) →
      (∀ slot lo hi : Byte, payload = [slot, 2, lo, hi] →
        exec (.beginLoad p (frameOf level tag payload)) s = .next (s.answered p tag .privilege [])) ∧
      (∀ (i : Fin 16) (n : Nat) (d rest : List Byte), s.creds.slots[i] = .loading .service n d →
        payload = BitVec.ofNat 8 i :: rest →
        exec (.loadChunk p (frameOf level tag payload)) s = .next (s.answered p tag .privilege []) ∧
        exec (.endLoad p (frameOf level tag payload)) s = .next (s.answered p tag .privilege []) ∧
        (rest = [] → exec (.abortLoad p (frameOf level tag payload)) s = .next (s.answered p tag .privilege []))))

/-- "The Set Port reaches level-2 requests only, whatever the mode" (R145, R129): any frame of another request, whatever its
bytes, leaves everything but the Set Port as it was. -/
def Obligations.SetPortReachesLevelTwoOnly : Prop :=
  ∀ (s : State) (code : Byte) (bytes : List Byte),
    (∃ row ∈ requestRows, row.code = code.toNat ∧ row.level < 2) ∨ code.toNat ∈ [0x50, 0x51, 0x52, 0x53] →
    ∃ t, exec (decodeFrame .set (code :: bytes)) s = .next t ∧ t = s.withPort .set t.setPort

/-- While the shipping indicator is set these requests are refused with BUSY and change nothing (R149): those whose check
order puts the indicator before anything their payload could decide. -/
def Obligations.ShippingIndicatorRefusesChanges : Prop :=
  ∀ (s : State) (p : PortId) (code level tag : Byte) (payload : List Byte) (row : RequestRow),
    row ∈ requestRows → row.code = code.toNat →
    code.toNat ∈ [0x05, 0x13, 0x14, 0x15, 0x16, 0x17, 0x18, 0x1A, 0x1B, 0x1C, 0x1D, 0x20, 0x21, 0x22, 0x30, 0x31, 0x32,
      0x60] →
    s.admits p level row.level → row.lengthPasses payload → payload.length ≤ 256 → s.modes.shipping = true →
    exec (decodeFrame p (code :: frameOf level tag payload)) s = .next (s.answered p tag .busy [])

/-- A fetch while the ports take frames (R166, R167, R169): the port state byte as it stands, then the response while READY.
The response is consumed when its last byte is clocked out: slot emptied, port IDLE, mark cleared. Short of that, or in
IDLE or PENDING, nothing changes but the model's record of the bytes driven (log 27), which on the Line Port is what LSDO
carries after the direction byte. -/
def Obligations.FetchSendsAndConsumesTheResponse : Prop :=
  ∀ (s : State) (p : PortId) (n : Nat), s.deaf = false →
    (∀ r, (s.port p).phase = .ready → (s.port p).slot = some r →
      ((u8 r.status.code ++ [r.tag] ++ u16 r.payload.length ++ r.payload).length ≤ n →
        exec (.fetch p n) s = .next (s.withPort p
          { s.port p with
            phase := .idle, slot := none, ignored := false,
            driven := (if (s.port p).ignored then 6 else 2) ::
              (u8 r.status.code ++ [r.tag] ++ u16 r.payload.length ++ r.payload ++
                List.replicate (n - (4 + r.payload.length)) 0) })) ∧
      (n < (u8 r.status.code ++ [r.tag] ++ u16 r.payload.length ++ r.payload).length →
        exec (.fetch p n) s = .next (s.withPort p
          { s.port p with
            driven := (if (s.port p).ignored then 6 else 2) ::
              (u8 r.status.code ++ [r.tag] ++ u16 r.payload.length ++ r.payload).take n }))) ∧
    ((s.port p).phase ≠ .ready →
      exec (.fetch p n) s = .next (s.withPort p
        { s.port p with driven := (s.port p).stateByte :: List.replicate n 0 })) ∧
    (∃ t, exec (.fetch .line n) s = .next t ∧
      t.linePort.driven.map some = (List.range (n + 1)).map (fun k => s.lsdo 0xA5 (k + 1)))

/-! ## Status and attention -/

/-- Read Identity (R177) and Read Status (R176), in STARTING as in READY, on either port: the reply field by field, in the
order the rules list them, and no other change. That the part code travels in two bytes and the revision in one is the
model's reading (log 8). -/
def Obligations.IdentityAndStatusAreReported : Prop :=
  ∀ (s : State) (p : PortId) (level tag : Byte), s.listens p → s.effectiveLevel p level ≤ 2 →
    exec (.readIdentity p (frameOf level tag [])) s =
      .next (s.answered p tag .ok
        [0x60, 0x44, 2, 0x00, 0x00, 0x02, 0x00, 16, 8, 64, 0x00, 0x01, 8, if s.modes.fuse then 1 else 0]) ∧
    exec (.readStatus p (frameOf level tag [])) s =
      .next (s.answered p tag .ok
        (u8 s.modes.mode.number ++ u8 (if s.store.startUp = .ready then 1 else 0) ++ flagByte s.modes.fuse ++
          flagByte s.modes.shipping ++ flagByte s.store.dirty ++ u8 s.store.write.number ++
          u8 s.store.lastResult.number ++ optional u16 (s.regions.active?.map (·.code)) ++
          optional u16 s.regions.pendingCode? ++
          (match s.detector.state with
            | .held h src b =>
              u8 1 ++ u8 h.tag ++ u8 h.kind.number ++ u16 h.level ++ u8 (channelNumber h.channels) ++ u8 src.number ++
                u32 b.toNat
            | _ => u8 0) ++
          u8 s.timing.condition.number ++ flagByte s.engine.lineBypass ++ flagByte s.engine.viewerBypass ++
          flagByte s.engine.bypass ++ u8 s.queue.hold.number ++ flagByte (s.queue.guard != .stopped) ++
          u8 s.conv.readings.length ++ u16 s.queue.entries.length ++ u32 s.timing.number.toNat ++ u8 s.modes.failures))

/-- Read Attention reports the port's flags and mask and clears its flags (R174); Set Attention Mask replaces the port's
mask, and refuses a bit above bit 10 (R175). A port's alert line is driven low just while a flag of its set is set and
unmasked, and released while RESET_N is asserted (R173; without supply, log 19). -/
def Obligations.AttentionIsReadAndMasked : Prop :=
  (∀ (s : State) (p : PortId) (level tag : Byte), s.admits p level 2 →
    exec (.readAttention p (frameOf level tag [])) s =
      .next (({ s with
          attention :=
            match p with
            | .line => { s.attention with lineFlags := 0 }
            | .set => { s.attention with setFlags := 0 } } : State).answered p tag .ok
        (u16 (s.attention.flags p).toNat ++ u16 (s.attention.maskOf p).toNat)) ∧
    (∀ mask : FlagSet,
      exec (.setAttentionMask p (frameOf level tag (u16 mask.toNat))) s =
        .next (({ s with
            attention :=
              match p with
              | .line => { s.attention with lineMask := mask }
              | .set => { s.attention with setMask := mask } } : State).answered p tag .ok
          (u16 mask.toNat ++ u16 (s.attention.flags p).toNat))) ∧
    (∀ bits : Nat, 2048 ≤ bits → bits < 65536 →
      exec (.setAttentionMask p (frameOf level tag (u16 bits))) s = .next (s.answered p tag .badValue []))) ∧
  (∀ s : State,
    (s.alertLow .line = true ↔ s.pins.supply = true ∧ s.pins.resetAsserted = false ∧
      ∃ k : Fin 11, s.attention.lineFlags.getLsbD k = true ∧ s.attention.lineMask.getLsbD k = false) ∧
    (s.alertLow .set = true ↔ s.pins.supply = true ∧ s.pins.resetAsserted = false ∧
      ∃ k : Fin 11, s.attention.setFlags.getLsbD k = true ∧ s.attention.setMask.getLsbD k = false))

/-- No command clears a flag of a port's set but a Read Attention on that port, a reset (R172, R174), and the loss of the
supply, after which the flags stand clear by the model's choice (log 19): every flag set before any other command is set
after it. -/
def Obligations.FlagsAreClearedByReadingOrReset : Prop :=
  ∀ (c : Instr) (s t : State) (p : PortId), exec c s = .next t → isResetEvent c = false → readsAttention p c = false →
    s.attention.flags p &&& t.attention.flags p = s.attention.flags p

/-! ## Resets -/

/-- The three kinds of reset and the loss of the supply (R162, R163). A Reset request that is taken puts every piece of
volatile state at its reset value and places no reply on either port; it is refused with BUSY while a save, a revocation
write or Ship runs. Assertion of RESET_N resets and holds the load back, its release begins the load; a power-on reset also
clears the Reopen failure count. Without supply the part stands at its reset values (log 19), and no frame is in progress
before the first frame start after power-on (log 22). That a power-on reset of a powered part is one like any other (log
20), that the load waits at a power-on with RESET_N held asserted (log 21), what a frame in progress keeps across a reset,
and the tag memory of a port are the model's reading (logs 26 and 28). The Set Port acknowledges the address that the last
reset has sampled from ADSEL and no other, and with it every byte written, in every port state and in STARTING, and none
while RESET_N is asserted (R167; without supply, log 19). A write transfer carries a request frame, a read transfer is a
fetch of the bytes after the port state byte, and a transfer that is not acknowledged is no command (log 39); that ADSEL
never changes in a run is the model's form (log 39). -/
def Obligations.ResetsRestoreResetValues : Prop :=
  (∀ (s : State) (p : PortId) (level tag : Byte), s.admits p level 2 →
    (s.store.write = .idle → s.modes.shipping = false →
      exec (.reset p (frameOf level tag [])) s =
        .next (s.atResetValues .loading s.modes.failures
          (FrameTiming.atResetValues
            (if s.pins.signal ∧ s.timing.internalTail = false ∧ s.generator.effective = .external then .input
              else .internal)
            (s.timing.frame.map (fun f => { f with begunReady := false }))
            (s.timing.internalTail || (s.generator.effective == .internal && s.pins.signal))))) ∧
    (s.store.write ≠ .idle ∨ s.modes.shipping = true →
      exec (.reset p (frameOf level tag [])) s = .next (s.answered p tag .busy []))) ∧
  (∀ s : State,
    (s.pins.supply = true → s.pins.resetAsserted = false →
      exec .resetLineAsserted s =
        .next (({ s with pins := { s.pins with resetAsserted := true } } : State).atResetValues .waiting s.modes.failures
          (FrameTiming.atResetValues
            (if s.pins.signal ∧ s.timing.internalTail = false ∧ s.generator.effective = .external then .input
              else .internal)
            (s.timing.frame.map (fun f => { f with begunReady := false }))
            (s.timing.internalTail || (s.generator.effective == .internal && s.pins.signal))))) ∧
    (s.pins.supply = true → s.pins.resetAsserted = true →
      exec .resetLineReleased s =
        .next { s with
          pins := { s.pins with resetAsserted := false }
          store := { s.store with startUp := .loading } }) ∧
    exec .powerOnReset s =
      .next (({ s with pins := { s.pins with supply := true } } : State).atResetValues
        (if s.pins.resetAsserted then .waiting else .loading) 0
        (FrameTiming.atResetValues (if s.pins.signal then .input else .internal) none false)) ∧
    (s.pins.supply = true →
      exec .supplyLost s =
        .next (({ s with pins := { s.pins with supply := false } } : State).atResetValues .waiting 0
          (FrameTiming.atResetValues (if s.pins.signal then .input else .internal) none false)))) ∧
  (∀ s : State,
    (∀ address : BitVec 7, s.acknowledges address = true ↔
      s.pins.supply = true ∧ s.pins.resetAsserted = false ∧ address = s.pins.address) ∧
    (s.pins.supply = true → s.pins.resetAsserted = false → ∀ (bytes : List Byte) (taken : Nat),
      s.acknowledgements (.write s.pins.address bytes) = List.replicate (1 + bytes.length) true ∧
      s.transferCommand? (.write s.pins.address bytes) = some (decodeFrame .set bytes) ∧
      s.acknowledgements (.read s.pins.address taken) = [true] ∧
      s.transferCommand? (.read s.pins.address taken) = some (.fetch .set (taken - 1))) ∧
    (∀ transfer : SetTransfer,
      s.pins.supply = false ∨ s.pins.resetAsserted = true ∨ transfer.address ≠ s.pins.address →
      (∀ bit ∈ s.acknowledgements transfer, bit = false) ∧ s.transferCommand? transfer = none) ∧
    (∀ (c : Instr) (t : State), exec c s = .next t →
      t.pins.adselHigh = s.pins.adselHigh ∧ (isResetEvent c = false → t.pins.address = s.pins.address)))

/-! ## The grid -/

/-- A Define Grid that is taken (R16, R17, R13, R15): the descriptor, every record UNSET anew, the counts, both queues emptied,
every target unset, the dirty flag set, and CONVERGED attention when ALL_CONVERGED was true. The refusals, in their order
(R16): a payload that does not hold as many levels as its count says, the plane count, a save or Ship that runs, the
ranges, the order of the levels, the capacity; nothing changes. No level that the port admits meets the mode check, since
the port's floor comes before it. That the length is tested before the range of the count, and that a payload without a
count is answered BAD_LENGTH, is the model's reading (log 11), as are the widths of columns, rows and knot count in the
reply (log 8). -/
def Obligations.DefineGridBuildsAnUnsetGridOrRefuses : Prop :=
  (∀ (s : State) (p : PortId) (level tag : Byte) (d : Descriptor),
    s.admits p level 1 → s.saveRuns = false → s.modes.shipping = false → d.sound →
    exec (.defineGrid p (frameOf level tag
      (u16 d.width ++ u16 d.height ++ u8 d.exponent ++ u8 d.levels.length ++ d.levels.flatMap u16))) s =
      .next (({ s with
          grid :=
            { descriptor := some d
              records := List.replicate d.triples
                { trim := ⟨0, 0, 0⟩, state := .unset, hits := ⟨0, 0, 0⟩, limit := ⟨false, false, false⟩, applied := none }
              counts := List.replicate d.levels.length
                { unset := d.knots, provisional := 0, tracking := 0, converged := 0, pinned := 0, retired := 0 }
              writeSkip := 0
              allConverged := false }
          queue := { s.queue with entries := [] }
          conv := { s.conv with readings := [], targets := Vector.replicate 8 ⟨0, 0, 0⟩ }
          store := { s.store with dirty := true }
          attention := if s.grid.allConverged then s.attention.raise .converged else s.attention } : State).answered
        p tag .ok
        (u16 d.columns ++ u16 d.rows ++ u16 (d.columns * d.rows) ++ u32 (d.columns * d.rows * d.levels.length) ++
          u16 s.queue.entries.length ++ u8 s.conv.readings.length))) ∧
  (∀ (s : State) (p : PortId) (level tag : Byte) (d : Descriptor),
    s.admits p level 1 → d.width < 65536 → d.height < 65536 → d.exponent < 256 → d.levels.length ≤ 125 →
    (∀ l ∈ d.levels, l < 65536) →
    let answer := fun status => exec (.defineGrid p (frameOf level tag
      (u16 d.width ++ u16 d.height ++ u8 d.exponent ++ u8 d.levels.length ++ d.levels.flatMap u16))) s =
        .next (s.answered p tag status [])
    let counted := 1 ≤ d.levels.length ∧ d.levels.length ≤ 8
    let free := s.saveRuns = false ∧ s.modes.shipping = false
    let ranged := (640 ≤ d.width ∧ d.width ≤ 7680) ∧ (360 ≤ d.height ∧ d.height ≤ 4320) ∧
      (5 ≤ d.exponent ∧ d.exponent ≤ 8) ∧ (∀ l ∈ d.levels, l ≤ 1023)
    (¬counted → answer .badValue) ∧
    (counted → ¬free → answer .busy) ∧
    (counted → free → ¬ranged → answer .badValue) ∧
    (counted → free → ranged → ¬d.levels.Pairwise (· < ·) → answer .badValue) ∧
    (counted → free → ranged → d.levels.Pairwise (· < ·) → 131072 < d.columns * d.rows * d.levels.length →
      answer .capacity)) ∧
  (∀ (s : State) (p : PortId) (level tag : Byte), s.admits p level 1 →
    let answer := fun (payload : List Byte) (status : Status) =>
      exec (.defineGrid p (frameOf level tag payload)) s = .next (s.answered p tag status [])
    (∀ payload : List Byte, payload.length < 6 → answer payload .badLength) ∧
    (∀ (width height exponent count : Nat) (levels : List Byte), width < 65536 → height < 65536 → exponent < 256 →
      count < 256 → levels.length ≤ 250 → levels.length ≠ 2 * count →
      answer (u16 width ++ u16 height ++ u8 exponent ++ u8 count ++ levels) .badLength))

/-- Read Descriptor, Read Knots and Read Summary (R18, R19, R20): the reply field by field, and the refusals of Read Knots
in their order (R19); only Read Summary changes anything, the write-skip count, which becomes 0. The truth values are free
values (log 6), and the widths of some counts are the model's reading (log 8). -/
def Obligations.GridIsReported : Prop :=
  ∀ (s : State) (p : PortId) (level tag : Byte), s.admits p level 2 →
    (s.grid.descriptor = none →
      exec (.readDescriptor p (frameOf level tag [])) s =
        .next (s.answered p tag .ok (truthByte .descriptorDefined false))) ∧
    (∀ d, s.grid.descriptor = some d →
      exec (.readDescriptor p (frameOf level tag [])) s =
        .next (s.answered p tag .ok
          (truthByte .descriptorDefined true ++ u16 d.width ++ u16 d.height ++ u8 d.exponent ++ u16 (2 ^ d.exponent) ++
            u16 d.columns ++ u16 d.rows ++ u16 (d.columns * d.rows) ++ u8 d.levels.length ++ d.levels.flatMap u16 ++
            u32 (d.columns * d.rows * d.levels.length)))) ∧
    (∀ d (plane row first count : Nat), s.grid.descriptor = some d → d.sound → 1 ≤ count → count ≤ 12 →
      plane < d.planes → row < d.rows → first + count ≤ d.columns →
      exec (.readKnots p (frameOf level tag (u8 plane ++ u16 row ++ u16 first ++ u8 count))) s =
        .next (s.answered p tag .ok
          ((List.range' first count).flatMap (fun column =>
            match s.grid.records[(plane * d.rows + row) * d.columns + column]? with
            | none => []
            | some r =>
              u16 column ++ u8 r.state.number ++ s16 r.trim.r ++ s16 r.trim.g ++ s16 r.trim.b ++
                u8 r.hits.r ++ u8 r.hits.g ++ u8 r.hits.b ++ u8 (channelNumber r.limit) ++
                (match r.applied with
                  | none => u8 0
                  | some f => u8 1 ++ u32 f.toNat) ++
                u16 (s.queue.entries.filter (fun e => e.touches column row plane)).length)))) ∧
    (∀ plane row first count : Nat, plane < 256 → row < 65536 → first < 65536 → count < 256 →
      let answer := fun status => exec (.readKnots p (frameOf level tag (u8 plane ++ u16 row ++ u16 first ++ u8 count))) s =
        .next (s.answered p tag status [])
      (s.grid.descriptor = none → answer .noGrid) ∧
      (∀ d, s.grid.descriptor = some d →
        let counted := (1 ≤ count ∧ count ≤ 12) ∧ plane < d.planes
        (¬counted → answer .badValue) ∧
        (counted → ¬(row < d.rows ∧ first + count ≤ d.columns) → answer .outOfGrid))) ∧
    exec (.readSummary p (frameOf level tag [])) s =
      .next (({ s with grid := { s.grid with writeSkip := 0 } } : State).answered p tag .ok
        (truthByte .summaryDefined s.grid.descriptor.isSome ++
          u8 (match s.grid.descriptor with | none => 0 | some d => d.levels.length) ++
          s.grid.counts.flatMap (fun c => u16 c.unset ++ u16 c.provisional ++ u16 c.tracking ++ u16 c.converged ++
            u16 c.pinned ++ u16 c.retired) ++
          u16 s.grid.writeSkip ++ u16 s.queue.entries.length ++ truthByte .allConverged s.grid.allConverged))

/-! ## Grid updates -/

/-- A Write Knots that is taken (R54, R55): one WRITE entry for each knot of the run, in column order, each value saturated
into the trim range; the reply counts the knots, the values saturated and the queue's entries. The refusals of one whose
payload has all the fields before its values, in their order (R54): nothing is placed. -/
def Obligations.WriteKnotsPlacesARun : Prop :=
  (∀ (s : State) (p : PortId) (level tag : Byte) (d : Descriptor) (row first plane : Nat) (c : ChannelSet)
    (values : List (Rgb Int)),
    s.admits p level 1 → s.modes.shipping = false → s.grid.descriptor = some d → d.sound → someChannel c →
    1 ≤ values.length → values.length ≤ 16 → plane < d.planes → row < d.rows → first + values.length ≤ d.columns →
    s.queue.entries.length + values.length ≤ 256 →
    (∀ v ∈ values, everyChannel (fun x : Int => -32768 ≤ x ∧ x ≤ 32767) v) →
    exec (.writeKnots p (frameOf level tag
      (u16 row ++ u16 first ++ u8 values.length ++ u8 plane ++ u8 (channelNumber c) ++
        values.flatMap (channelFields s16 c)))) s =
      .next (({ s with
          queue := { s.queue with
            entries := s.queue.entries ++ values.mapIdx (fun k v =>
              Entry.write (first + k) row plane (carried c (v.map (fun x => max (-8192) (min 8191 x))))) } } :
            State).answered p tag .ok
        (u8 values.length ++
          u8 (values.map (fun v => ((carried c v).present.filter (fun x => x < -8192 || 8191 < x)).length)).sum ++
          u16 (s.queue.entries.length + values.length)))) ∧
  (∀ (s : State) (p : PortId) (level tag : Byte) (row first count plane set : Nat) (values : List Byte),
    s.admits p level 1 → s.modes.shipping = false → row < 65536 → first < 65536 → count < 256 → plane < 256 →
    set < 256 → values.length ≤ 249 →
    let answer := fun status => exec (.writeKnots p (frameOf level tag
      (u16 row ++ u16 first ++ u8 count ++ u8 plane ++ u8 set ++ values))) s = .next (s.answered p tag status [])
    (s.grid.descriptor = none → answer .noGrid) ∧
    (∀ d, s.grid.descriptor = some d →
      let counted := (1 ≤ count ∧ count ≤ 16) ∧ (1 ≤ set ∧ set ≤ 7) ∧ plane < d.planes
      let exact := values.length = 2 * (count * ((List.range 3).filter set.testBit).length)
      let within := row < d.rows ∧ first + count ≤ d.columns
      (¬counted → answer .badValue) ∧
      (counted → ¬exact → answer .badLength) ∧
      (counted → exact → ¬within → answer .outOfGrid) ∧
      (counted → exact → within → 256 < s.queue.entries.length + count → answer .queueFull)))

/-- An Adjust Knot that passes its checks places one ADJUST entry and its port waits, PENDING with an empty slot (R56, R57,
R165). The refusals, in their order (R56): no grid, the plane, the channel set, the deltas one by one and their number, a
knot outside the grid, a hold, a full queue; nothing is placed. The payload is read in order, so that one that ends early
is answered BAD_LENGTH only where no field before its end has failed (log 10). -/
def Obligations.AdjustKnotPlacesAnEntryAndWaits : Prop :=
  (∀ (s : State) (p : PortId) (level tag : Byte) (d : Descriptor) (column row plane : Nat) (c : ChannelSet)
    (deltas : Rgb Int),
    s.admits p level 1 → s.modes.shipping = false → s.grid.descriptor = some d → d.sound → someChannel c →
    plane < d.planes → column < d.columns → row < d.rows →
    everyChannel (fun x : Int => -16383 ≤ x ∧ x ≤ 16383) deltas →
    let request := Instr.adjustKnot p (frameOf level tag
      (u16 column ++ u16 row ++ u8 plane ++ u8 (channelNumber c) ++ channelFields s16 c deltas))
    (s.queue.hold = .released → s.queue.entries.length < 256 →
      exec request s = .next (({ s with
          queue := { s.queue with
            entries := s.queue.entries ++ [.adjust column row plane (carried c deltas)] } } : State).withPort p
        { s.port p with phase := .pending, slot := none, tag := tag, driven := [] })) ∧
    (s.queue.hold ≠ .released → exec request s = .next (s.answered p tag .held [])) ∧
    (s.queue.hold = .released → 256 ≤ s.queue.entries.length →
      exec request s = .next (s.answered p tag .queueFull []))) ∧
  (∀ (s : State) (p : PortId) (level tag : Byte), s.admits p level 1 → s.modes.shipping = false →
    let answer := fun (payload : List Byte) (status : Status) =>
      exec (.adjustKnot p (frameOf level tag payload)) s = .next (s.answered p tag status [])
    (s.grid.descriptor = none → ∀ payload : List Byte, payload.length ≤ 256 → answer payload .noGrid) ∧
    (∀ d, s.grid.descriptor = some d →
      (∀ payload : List Byte, payload.length ≤ 4 → answer payload .badLength) ∧
      (∀ column row plane : Nat, column < 65536 → row < 65536 → plane < 256 →
        let place := u16 column ++ u16 row ++ u8 plane
        (d.planes ≤ plane → ∀ rest : List Byte, rest.length ≤ 251 → answer (place ++ rest) .badValue) ∧
        (plane < d.planes → answer place .badLength) ∧
        (plane < d.planes → ∀ set : Nat, set < 256 →
          (set = 0 ∨ 7 < set → ∀ rest : List Byte, rest.length ≤ 250 → answer (place ++ u8 set ++ rest) .badValue) ∧
          (1 ≤ set → set ≤ 7 → ∀ deltas : List Int,
            let fields := place ++ u8 set ++ deltas.flatMap s16
            let named := ((List.range 3).filter set.testBit).length
            (∀ x ∈ deltas, -16383 ≤ x ∧ x ≤ 16383) →
            (deltas.length < named → ∀ (x : Int) (rest : List Byte), -32768 ≤ x → x ≤ 32767 → x < -16383 ∨ 16383 < x →
              rest.length ≤ 60 → answer (fields ++ s16 x ++ rest) .badValue) ∧
            (deltas.length < named → ∀ rest : List Byte, rest.length ≤ 1 → answer (fields ++ rest) .badLength) ∧
            (deltas.length = named → ∀ rest : List Byte, rest ≠ [] → rest.length ≤ 60 →
              answer (fields ++ rest) .badLength) ∧
            (deltas.length = named → ¬(column < d.columns ∧ row < d.rows) → answer fields .outOfGrid))))))

/-- Pin Area, Unpin Area, Retire Knot and Restore Knot that are taken (R59, R60): one entry at the tail; the area requests
reply with the number of records covered, and each with the queue's entries. The refusals, in their order (R59, R60): no
grid; for an area, its planes and its corners; a place outside the grid; a full queue. Nothing is placed then. -/
def Obligations.AreaAndKnotRequestsPlaceAnEntry : Prop :=
  (∀ (s : State) (p : PortId) (level tag : Byte) (d : Descriptor),
    s.admits p level 1 → s.modes.shipping = false → s.grid.descriptor = some d → d.sound →
    (s.queue.entries.length < 256 → ∀ (c0 r0 c1 r1 : Nat) (planes : BitVec 8),
      c0 ≤ c1 → r0 ≤ r1 → c1 < d.columns → r1 < d.rows → planes ≠ 0 → planes.toNat < 2 ^ d.planes →
      let covered := (c1 + 1 - c0) * (r1 + 1 - r0) * ((List.range 8).filter planes.getLsbD).length
      exec (.pinArea p (frameOf level tag (u16 c0 ++ u16 r0 ++ u16 c1 ++ u16 r1 ++ u8 planes.toNat))) s =
        .next (({ s with
            queue := { s.queue with entries := s.queue.entries ++ [.pinArea c0 r0 c1 r1 planes] } } : State).answered
          p tag .ok (u32 covered ++ u16 (s.queue.entries.length + 1))) ∧
      exec (.unpinArea p (frameOf level tag (u16 c0 ++ u16 r0 ++ u16 c1 ++ u16 r1 ++ u8 planes.toNat))) s =
        .next (({ s with
            queue := { s.queue with entries := s.queue.entries ++ [.unpinArea c0 r0 c1 r1 planes] } } : State).answered
          p tag .ok (u32 covered ++ u16 (s.queue.entries.length + 1)))) ∧
    (s.queue.entries.length < 256 → ∀ column row : Nat, column < d.columns → row < d.rows →
      exec (.retireKnot p (frameOf level tag (u16 column ++ u16 row))) s =
        .next (({ s with
            queue := { s.queue with entries := s.queue.entries ++ [.retire column row] } } : State).answered p tag .ok
          (u16 (s.queue.entries.length + 1))) ∧
      exec (.restoreKnot p (frameOf level tag (u16 column ++ u16 row))) s =
        .next (({ s with
            queue := { s.queue with entries := s.queue.entries ++ [.restore column row] } } : State).answered p tag .ok
          (u16 (s.queue.entries.length + 1))))) ∧
  (∀ (s : State) (p : PortId) (level tag : Byte), s.admits p level 1 → s.modes.shipping = false →
    (∀ c0 r0 c1 r1 planes : Nat, c0 < 65536 → r0 < 65536 → c1 < 65536 → r1 < 65536 → planes < 256 →
      let payload := u16 c0 ++ u16 r0 ++ u16 c1 ++ u16 r1 ++ u8 planes
      let answer := fun status =>
        exec (.pinArea p (frameOf level tag payload)) s = .next (s.answered p tag status []) ∧
        exec (.unpinArea p (frameOf level tag payload)) s = .next (s.answered p tag status [])
      (s.grid.descriptor = none → answer .noGrid) ∧
      (∀ d, s.grid.descriptor = some d →
        let shaped := (planes ≠ 0 ∧ planes < 2 ^ d.planes) ∧ c0 ≤ c1 ∧ r0 ≤ r1
        let within := c1 < d.columns ∧ r1 < d.rows
        (¬shaped → answer .badValue) ∧
        (shaped → ¬within → answer .outOfGrid) ∧
        (shaped → within → 256 ≤ s.queue.entries.length → answer .queueFull))) ∧
    (∀ column row : Nat, column < 65536 → row < 65536 →
      let answer := fun status =>
        exec (.retireKnot p (frameOf level tag (u16 column ++ u16 row))) s = .next (s.answered p tag status []) ∧
        exec (.restoreKnot p (frameOf level tag (u16 column ++ u16 row))) s = .next (s.answered p tag status [])
      (s.grid.descriptor = none → answer .noGrid) ∧
      (∀ d, s.grid.descriptor = some d →
        let within := column < d.columns ∧ row < d.rows
        (¬within → answer .outOfGrid) ∧
        (within → 256 ≤ s.queue.entries.length → answer .queueFull))))

/-- Hold Updates, Release Updates and Step Updates (R46, R47, R48): the hold state after each, by the state before it, the
reply, and NOT_HELD for a step without a hold. -/
def Obligations.HoldRequestsMoveTheHoldState : Prop :=
  ∀ (s : State) (p : PortId) (level tag : Byte), s.admits p level 1 → s.modes.shipping = false →
    let after := fun (h : HoldState) (number : Nat) =>
      ({ s with queue := { s.queue with hold := h } } : State).answered p tag .ok
        (u8 number ++ u16 s.queue.entries.length)
    (s.queue.hold ≠ .stepPending → exec (.holdUpdates p (frameOf level tag [])) s = .next (after .held 1)) ∧
    (s.queue.hold = .stepPending → exec (.holdUpdates p (frameOf level tag [])) s = .next (after .stepPending 2)) ∧
    exec (.releaseUpdates p (frameOf level tag [])) s = .next (after .released 0) ∧
    (s.queue.hold ≠ .released → exec (.stepUpdates p (frameOf level tag [])) s = .next (after .stepPending 2)) ∧
    (s.queue.hold = .released →
      exec (.stepUpdates p (frameOf level tag [])) s = .next (s.answered p tag .notHeld []))

/-- Set Bypass changes the line bypass at effective level 0 or 1 and the viewer bypass at level 2; it reports both settings
and the effective bypass they and the ACTIVE profile give (R36, R37); other values are BAD_VALUE. -/
def Obligations.SetBypassFollowsTheLevel : Prop :=
  ∀ (s : State) (p : PortId) (level tag : Byte) (on : Bool), s.admits p level 2 → s.modes.shipping = false →
    (∀ line viewer : Bool,
      line = (if s.effectiveLevel p level ≤ 1 then on else s.engine.lineBypass) →
      viewer = (if s.effectiveLevel p level ≤ 1 then s.engine.viewerBypass else on) →
      exec (.setBypass p (frameOf level tag [if on then 1 else 0])) s =
        .next (({ s with
            engine := { s.engine with lineBypass := line, viewerBypass := viewer } } : State).answered p tag .ok
          (flagByte line ++ flagByte viewer ++
            flagByte (line || (viewer && (match s.regions.active? with | none => false | some r => r.viewerBypass)))))) ∧
    (∀ value : Byte, 2 ≤ value.toNat →
      exec (.setBypass p (frameOf level tag [value])) s = .next (s.answered p tag .badValue []))

/-- Which records an entry touches (R6); that the Convergence Unit finds a reading stale by it, and that Read Knots reports it
as a count for each record. -/
def Obligations.EntriesTouchTheirRecords : Prop :=
  ∀ (column row plane : Nat),
    (∀ c r q v, (Entry.write c r q v).touches column row plane = true ↔ (c, r, q) = (column, row, plane)) ∧
    (∀ c r q v, (Entry.adjust c r q v).touches column row plane = true ↔ (c, r, q) = (column, row, plane)) ∧
    (∀ c r q t h l st, (Entry.converge c r q t h l st).touches column row plane = true ↔
      (c, r, q) = (column, row, plane)) ∧
    (∀ c0 r0 c1 r1 ps, (Entry.pinArea c0 r0 c1 r1 ps).touches column row plane = true ↔
      (c0 ≤ column ∧ column ≤ c1) ∧ (r0 ≤ row ∧ row ≤ r1) ∧ ps.getLsbD plane = true) ∧
    (∀ c0 r0 c1 r1 ps, (Entry.unpinArea c0 r0 c1 r1 ps).touches column row plane = true ↔
      (c0 ≤ column ∧ column ≤ c1) ∧ (r0 ≤ row ∧ row ≤ r1) ∧ ps.getLsbD plane = true) ∧
    (∀ c r, (Entry.retire c r).touches column row plane = true ↔ (c, r) = (column, row)) ∧
    (∀ c r, (Entry.restore c r).touches column row plane = true ↔ (c, r) = (column, row)) ∧
    (∀ (entries : List Entry) (r : KnotRecord) (q : Reading), q.column = column → q.row = row → q.plane = plane →
      (∃ e ∈ entries, e.touches column row plane = true) → readingStale entries r q = true) ∧
    (∀ (s : State) (d : Descriptor) (r : KnotRecord), s.grid.records[recordPlace d plane row column]? = some r →
      knotsPayload s d plane row column 1 =
        recordPayload column r (s.queue.entries.filter (fun e => e.touches column row plane)).length)

/-- WRITE, ADJUST and CONVERGE entries meet the one record they name (R7, R8): a writable record takes the values,
hits 0 and PROVISIONAL, keeping its limit set; a PINNED or RETIRED one is left, and only a WRITE entry's skip is counted;
a CONVERGE entry's values are taken as they are. An ADJUST entry makes the deferred reply of its request (R57): the frame
number, and for each channel the applied trims before and after the entry, or the trim a PINNED or RETIRED record keeps. -/
def Obligations.DirectEntriesChangeTheirRecord : Prop :=
  ∀ (d : Descriptor) (frame : FrameNumber) (a : Application) (column row plane : Nat) (old : KnotRecord),
    a.grid.records[recordPlace d plane row column]? = some old →
    let moved := fun (delta : Option Int) (t : Int) => (delta.map (fun x => max (-8192) (min 8191 (t + x)))).getD t
    let both := fun (delta : Option Int) (t : Int) => if delta.isSome then s16 t ++ s16 (moved delta t) else []
    let kept := fun (delta : Option Int) (t : Int) => if delta.isSome then s16 t else []
    (old.state ≠ .pinned → old.state ≠ .retired → ∀ v : Rgb (Option Int),
      (Application.apply d frame a (.write column row plane v)).grid.records =
        a.grid.records.set (recordPlace d plane row column)
          { trim := ⟨v.r.getD old.trim.r, v.g.getD old.trim.g, v.b.getD old.trim.b⟩, state := .provisional,
            hits := ⟨0, 0, 0⟩, limit := old.limit, applied := some frame } ∧
      (Application.apply d frame a (.write column row plane v)).grid.writeSkip = a.grid.writeSkip ∧
      (Application.apply d frame a (.adjust column row plane v)).grid.records =
        a.grid.records.set (recordPlace d plane row column)
          { trim := ⟨moved v.r old.trim.r, moved v.g old.trim.g, moved v.b old.trim.b⟩,
            state := .provisional, hits := ⟨0, 0, 0⟩, limit := old.limit, applied := some frame } ∧
      (Application.apply d frame a (.adjust column row plane v)).grid.writeSkip = a.grid.writeSkip ∧
      (Application.apply d frame a (.adjust column row plane v)).reply =
        some (.ok, u32 frame.toNat ++ both v.r old.trim.r ++ both v.g old.trim.g ++ both v.b old.trim.b)) ∧
    (old.state = .pinned ∨ old.state = .retired → ∀ v : Rgb (Option Int),
      Application.apply d frame a (.write column row plane v) =
        { a with grid := { a.grid with
            writeSkip := if a.grid.writeSkip < 65535 then a.grid.writeSkip + 1 else a.grid.writeSkip } } ∧
      (Application.apply d frame a (.adjust column row plane v)).grid = a.grid ∧
      (Application.apply d frame a (.adjust column row plane v)).dirty = a.dirty ∧
      (Application.apply d frame a (.adjust column row plane v)).reply =
        some (if old.state = .pinned then .pinned else .retired,
          u32 frame.toNat ++ kept v.r old.trim.r ++ kept v.g old.trim.g ++ kept v.b old.trim.b)) ∧
    (∀ trim hits limit st,
      (Application.apply d frame a (.converge column row plane trim hits limit st)).grid.records =
        a.grid.records.set (recordPlace d plane row column)
          { trim := trim, state := st, hits := hits, limit := limit, applied := some frame })

/-- PIN_AREA and UNPIN_AREA entries (R9): each record of the grid after the entry, from the record before it. A pinned record
keeps its trims against WRITE entries and camera readings, and can still be retired. -/
def Obligations.AreaEntriesPinAndUnpin : Prop :=
  ∀ (d : Descriptor) (frame : FrameNumber) (a : Application) (c0 r0 c1 r1 : Nat) (planes : BitVec 8)
    (column row plane : Nat) (old : KnotRecord),
    a.grid.records.length = d.triples → c1 < d.columns → r1 < d.rows →
    column < d.columns → row < d.rows → plane < d.planes →
    a.grid.records[recordPlace d plane row column]? = some old →
    let covered := (c0 ≤ column ∧ column ≤ c1) ∧ (r0 ≤ row ∧ row ≤ r1) ∧ planes.getLsbD plane = true
    (Application.apply d frame a (.pinArea c0 r0 c1 r1 planes)).grid.records[recordPlace d plane row column]? =
      some (if covered ∧ old.state ≠ .retired then { old with state := .pinned, applied := some frame } else old) ∧
    (Application.apply d frame a (.unpinArea c0 r0 c1 r1 planes)).grid.records[recordPlace d plane row column]? =
      some (if covered ∧ old.state = .pinned then
        { old with state := .provisional, hits := ⟨0, 0, 0⟩, applied := some frame } else old) ∧
    (old.state = .pinned →
      (∀ v, (Application.apply d frame a (.write column row plane v)).grid.records = a.grid.records) ∧
      (∀ (s : State) (q : Reading) (rest : List Reading), (s.examineHead q rest old).queue = s.queue) ∧
      (Application.apply d frame a (.retire column row)).grid.records[recordPlace d plane row column]?.map (·.state) =
        some .retired)

/-- RETIRE and RESTORE entries (R10, R11): a retired knot's records on every plane, filled channel by channel with the mean of
its neighbours that are not RETIRED; a restored knot's RETIRED records; every other knot's records as they were. The mean
of trims is their sum over their number, rounded with ties upward, and 0 of none. Entries are applied one after another,
each to what the earlier ones have left. That a restored record has hits 0 and an empty limit set whatever the RETIRED record
had is the model's reading (log 32), which only states that no run reaches tell from another. -/
def Obligations.KnotEntriesRetireAndRestore : Prop :=
  (∀ values : List Int, values ≠ [] →
    meanTrim values = (2 * values.sum + values.length) / (2 * values.length)) ∧ meanTrim [] = 0 ∧
  (∀ (g : GridStore) (d : Descriptor) (frame : FrameNumber) (entries : List Entry) (last : Entry),
    g.descriptor = some d →
    applyEntries g frame (entries ++ [last]) = Application.apply d frame (applyEntries g frame entries) last) ∧
  ∀ (d : Descriptor) (frame : FrameNumber) (a : Application) (c r column row plane : Nat) (old : KnotRecord),
    a.grid.records.length = d.triples → c < d.columns → r < d.rows →
    column < d.columns → row < d.rows → plane < d.planes →
    a.grid.records[recordPlace d plane row column]? = some old →
    let neighbours := ([(c - 1, r), (c + 1, r), (c, r - 1), (c, r + 1)].filter
        (fun k => k ≠ (c, r) ∧ k.1 < d.columns ∧ k.2 < d.rows)).filterMap
          (fun k => a.grid.records[recordPlace d plane k.2 k.1]?)
    let trims := (neighbours.filter (fun x => x.state ≠ .retired)).map (·.trim)
    (Application.apply d frame a (.retire c r)).grid.records[recordPlace d plane row column]? =
      some (if (column, row) = (c, r) then
        { trim := ⟨meanTrim (trims.map (·.r)), meanTrim (trims.map (·.g)), meanTrim (trims.map (·.b))⟩,
          state := .retired, hits := ⟨0, 0, 0⟩, limit := ⟨false, false, false⟩, applied := some frame } else old) ∧
    (Application.apply d frame a (.restore c r)).grid.records[recordPlace d plane row column]? =
      some (if (column, row) = (c, r) ∧ old.state = .retired then
        { trim := old.trim, state := .provisional, hits := ⟨0, 0, 0⟩, limit := ⟨false, false, false⟩,
          applied := some frame } else old)

/-- Records change only where entries are applied, at Define Grid, at a reset or loss of supply, and at the start-up load
(R8, R44): no other command changes them. -/
def Obligations.RecordsChangeOnlyAtFrameStarts : Prop :=
  ∀ (c : Instr) (s t : State), exec c s = .next t → mayChangeRecords c = false →
    t.grid.records = s.grid.records ∧ t.grid.descriptor = s.grid.descriptor ∧ t.grid.counts = s.grid.counts ∧
      t.grid.allConverged = s.grid.allConverged

/-! ## Frame starts -/

/-- The decision on application at a frame start (R43, R45, R49, R53): with a hold, a guard that still runs after adding the
step, or a save, every entry stays and no record changes; else every entry is applied one after another from the head, the
queue is emptied, and a pending step is spent unless the queue is empty. A guard a HOLDING_START has just started does not
count the step (R50; logs 3 and 41). CONVERGED attention is raised when an application changes the judged value of
ALL_CONVERGED, and only then (R15, R44), which is true when some record is neither RETIRED nor PINNED and every such record
is CONVERGED. The dirty flag is set when an applied entry changes a record's trims, state or hits, or a selection takes
effect, and only then (R12, R44, R120). Whatever is decided, what a frame start has no part in stays: the pins, the
Convergence Unit, the modes, the Set Port, the masks, the pattern times, the image and its write, and the credentials while
no load runs. That ALL_CONVERGED is judged again only where an entry is applied is the model's reading (log 30). -/
def Obligations.FrameStartAppliesUnlessSuspended : Prop :=
  (∀ (s : State) (o : FrameOrigin), s.frameStartDue o → ∃ t, exec (.frameStart o) s = .next t ∧
    (t.pending = s.pending ∧ t.pins = s.pins ∧ t.conv = s.conv ∧ t.modes = s.modes ∧ t.setPort = s.setPort ∧
      t.store = { s.store with dirty := t.store.dirty } ∧
      t.detector = { s.detector with state := t.detector.state } ∧
      t.attention.lineMask = s.attention.lineMask ∧ t.attention.setMask = s.attention.setMask ∧
      (s.creds.loading = none → t.creds = s.creds)) ∧
    let guardRuns := ∃ acc, s.queue.guard = .running acc ∧
      (s.book.guardFresh = true ∨ acc + s.comingStep < s.detector.guardTime)
    let unapplied := t.grid = s.grid ∧ t.linePort = s.linePort ∧
      t.attention.lineFlags.getLsbD 4 = s.attention.lineFlags.getLsbD 4 ∧
      t.attention.setFlags.getLsbD 4 = s.attention.setFlags.getLsbD 4 ∧
      t.store.dirty = (s.store.dirty || s.regions.selection.isSome)
    (s.queue.hold = .held ∨ guardRuns ∨ s.saveRuns = true →
      t.queue.entries = s.queue.entries ∧ t.queue.hold = s.queue.hold ∧ unapplied) ∧
    (s.queue.hold ≠ .held → ¬guardRuns → s.saveRuns = false → s.queue.entries = [] →
      t.queue.entries = [] ∧ t.queue.hold = s.queue.hold ∧ unapplied) ∧
    (s.queue.hold ≠ .held → ¬guardRuns → s.saveRuns = false → s.queue.entries ≠ [] →
      ∀ d, s.grid.descriptor = some d →
        let a := s.queue.entries.foldl (Application.apply d (s.timing.number + 1))
          { grid := s.grid, dirty := false, reply := none }
        t.queue.entries = [] ∧
        t.queue.hold = (if s.queue.hold = .stepPending then .held else s.queue.hold) ∧
        t.grid = { a.grid with allConverged := a.grid.judge } ∧
        t.attention.lineFlags.getLsbD 4 =
          (s.attention.lineFlags.getLsbD 4 || a.grid.judge != s.grid.allConverged) ∧
        t.attention.setFlags.getLsbD 4 =
          (s.attention.setFlags.getLsbD 4 || a.grid.judge != s.grid.allConverged) ∧
        t.store.dirty = (s.store.dirty || s.regions.selection.isSome || a.dirty) ∧
        (a.reply = none → t.linePort = s.linePort) ∧
        (∀ status fields, a.reply = some (status, fields) →
          t.linePort = { s.linePort with
            phase := .ready, slot := some { status := status, tag := s.linePort.tag, payload := fields } }))) ∧
  (∀ (d : Descriptor) (frame : FrameNumber) (a : Application) (e : Entry),
    (Application.apply d frame a e).dirty = true ↔
      a.dirty = true ∨ ∃ (i : Nat) (old new : KnotRecord), a.grid.records[i]? = some old ∧
        (Application.apply d frame a e).grid.records[i]? = some new ∧
        (new.trim ≠ old.trim ∨ new.state ≠ old.state ∨ new.hits ≠ old.hits)) ∧
  (∀ g : GridStore, g.shapeSound → g.countsSound →
    (g.judge = true ↔ (∃ r ∈ g.records, r.state ≠ .retired ∧ r.state ≠ .pinned) ∧
      ∀ r ∈ g.records, r.state ≠ .retired → r.state ≠ .pinned → r.state = .converged))

/-- Number, selection, family and step of a frame start (R110, R111, R120): the number rises by one and wraps; a pending
selection becomes ACTIVE and the former ACTIVE profile STORED; the family is the ACTIVE profile's, or F60; the frame begun
carries the step at the phase, the first step when the family has changed, and the phase moves on. -/
def Obligations.FrameStartSettlesFamilyAndStep : Prop :=
  ∀ (s : State) (o : FrameOrigin), s.frameStartDue o → ∃ t, exec (.frameStart o) s = .next t ∧
    t.timing.number = s.timing.number + 1 ∧
    (s.regions.selection = none → t.regions = s.regions) ∧
    (∀ i r, s.regions.selection = some i → s.regions.profiles[i] = .held .stored r →
      t.regions.selection = none ∧ t.regions.profiles[i] = .held .active r ∧
      (∀ j : Fin 8, j ≠ i → s.regions.profiles[j] = .empty → t.regions.profiles[j] = .empty) ∧
      (∀ j : Fin 8, j ≠ i → ∀ st x, s.regions.profiles[j] = .held st x →
        t.regions.profiles[j] = .held (if st = .active then .stored else st) x) ∧
      t.store.dirty = true ∧ t.attention.lineFlags.getLsbD 6 = true ∧ t.attention.setFlags.getLsbD 6 = true) ∧
    t.timing.family = (match t.regions.active? with | none => .f60 | some r => r.family) ∧
    (let steps := match t.timing.family with
      | .f50 => [20]
      | .f60 => [17, 17, 16]
      | .f120 => [8, 8, 9]
    let place := if t.timing.family = s.timing.family then s.timing.phase else 0
    (t.timing.frame.map (·.step)) = some (steps.getD place 0) ∧ t.timing.phase = (place + 1) % steps.length)

/-- What a frame start latches (R23, R24, R36, R90, R92, R113, R114): the requested source takes effect and the shown pattern
with it; the frame settings are STARTING's, or those of the state after the application; the frame begun, with its size.
What is latched for a frame without active pixels is the model's reading (log 24). -/
def Obligations.FrameStartLatchesTheSettings : Prop :=
  ∀ (s : State) (o : FrameOrigin), s.frameStartDue o → ∃ t, exec (.frameStart o) s = .next t ∧
    t.generator =
      { effective := s.generator.requested, requested := s.generator.requested, stored := s.generator.stored,
        shown := if s.generator.requested = .internal then some s.generator.stored else none } ∧
    t.engine.lineBypass = s.engine.lineBypass ∧ t.engine.viewerBypass = s.engine.viewerBypass ∧
    (s.store.startUp ≠ .ready →
      t.engine.treatment = .starting ∧ t.engine.latched = none ∧ t.engine.ceiling = 1023 ∧ t.engine.bypass = false) ∧
    (s.store.startUp = .ready →
      t.engine.latched = t.grid.descriptor ∧
      t.engine.ceiling = (match t.regions.active? with | none => 1023 | some r => r.ceiling) ∧
      t.engine.bypass = (s.engine.lineBypass ||
        (s.engine.viewerBypass && (match t.regions.active? with | none => false | some r => r.viewerBypass))) ∧
      t.engine.treatment =
        (if s.generator.requested = .external ∧ s.pins.signal = false then .black
        else if t.engine.bypass = true then .uncorrected
        else
          match t.grid.descriptor, o with
          | none, _ => .uncorrected
          | some d, .input f =>
            if s.generator.requested = .external ∧ (f.width ≠ d.width ∨ f.height ≠ d.height) then .uncorrected
            else .corrected
          | some _, .internal => .corrected)) ∧
    (∃ f, t.timing.frame = some f ∧ f.begunReady = (s.store.startUp == .ready) ∧ f.cutOff = false ∧
      (f.width, f.height) =
        (match f.content, t.engine.latched with
          | .input i, _ => (i.width, i.height)
          | _, some d => (d.width, d.height)
          | _, none => (3840, 2160)) ∧
      f.content =
        (match s.generator.requested, o with
          | .internal, _ => .generated
          | .external, .input i => .input i
          | .external, .internal => if s.pins.signal then .blanking else .black)) ∧
    t.timing.source =
      (match s.generator.requested, o with
        | .external, .input _ => .input
        | _, _ => .internal)

/-- A marker names a pattern exactly under the conditions of R95, and a frame's sighting is the marker's pattern or the shown
one, by the frame's content (R96, R98, R102). -/
def Obligations.SightingsNameTheFramesPattern : Prop :=
  (∀ (codes : List PixelCode) (p : Pattern), markerPattern? codes = some p ↔
    ∃ c0 c1 c2 c3 c4 c5 : PixelCode, codes = [c0, c1, c2, c3, c4, c5] ∧ c0 = 709 ∧ c1 = 314 ∧
      1 ≤ c2.toNat ∧ c2.toNat ≤ 255 ∧ 1 ≤ c4.toNat ∧ c4.toNat ≤ 7 ∧ c5.toNat = 1023 - c3.toNat ∧
      p = { tag := c2.toNat, kind := .flat, level := c3.toNat,
            channels := ⟨c4.getLsbD 0, c4.getLsbD 1, c4.getLsbD 2⟩ }) ∧
  (∀ (s : State) (f : Frame), s.timing.frame = some f →
    (f.cutOff = true → s.sighting = none) ∧
    (f.cutOff = false → ∀ i, f.content = .input i →
      s.sighting = (markerPattern? i.line0).map (fun p => (p, Source.external))) ∧
    (f.cutOff = false → f.content = .generated → ∀ p, s.generator.shown = some (.test p) →
      s.sighting = some (p, .internal)) ∧
    (f.cutOff = false → f.content = .generated → s.generator.shown = some .stopped → s.sighting = none) ∧
    (f.content = .black ∨ f.content = .blanking → s.sighting = none))

/-- The Marker Detector at a frame start (R97, R99, R100, R101, R103, R50, R52): its state after, the guard that a start or an
ending of holding leaves, and HELD attention, raised just there. A change of source clears the detector whatever was
judged before it. A judgement that a HOLDING_START or HOLDING_END has taken before the frame start is not made again there;
a start of holding that such an ending has left is taken. That these may be taken before the rest of their frame start is
the model's form (log 3). -/
def Obligations.FrameStartJudgesTheSighting : Prop :=
  ∀ (s : State) (o : FrameOrigin), s.frameStartDue o →
    ∃ t, exec (.frameStart o) s = .next t ∧ t.book.judgement = .notTaken ∧ t.book.guardFresh = false ∧
    let fresh := fun (p : Pattern) (src : Source) =>
      if s.detector.settleTime = 0 then Detection.held p src (s.timing.number + 1) else Detection.settling p src 0
    (s.generator.effective ≠ s.generator.requested → t.detector.state = .none) ∧
    (s.generator.effective = s.generator.requested → s.book.judgement = .taken →
      t.detector.state = s.detector.state) ∧
    (s.generator.effective = s.generator.requested → s.book.judgement = .endTaken →
      t.detector.state =
        (match s.detector.state with
          | .settling p src 0 => fresh p src
          | other => other)) ∧
    (s.generator.effective = s.generator.requested → s.book.judgement = .notTaken →
      (∀ f, s.timing.frame = some f → f.begunReady = false) → t.detector.state = s.detector.state) ∧
    (s.generator.effective = s.generator.requested → s.book.judgement = .notTaken →
      ∀ f, s.timing.frame = some f → f.begunReady = true →
      t.detector.state =
        (match s.detector.state, s.sighting with
          | _, none => .none
          | .none, some (p, src) => fresh p src
          | .settling c csrc acc, some (p, src) =>
            if p = c then
              if s.detector.settleTime ≤ acc + f.step then .held c csrc (s.timing.number + 1)
              else .settling c csrc (acc + f.step)
            else fresh p src
          | .held h hsrc b, some (p, src) => if p = h then .held h hsrc b else fresh p src)) ∧
    (∀ p src b, s.detector.state = .held p src b → t.detector.state ≠ s.detector.state →
      t.attention.lineFlags.getLsbD 0 = true ∧ t.attention.setFlags.getLsbD 0 = true ∧
        ((∀ q r e, t.detector.state ≠ .held q r e) → t.queue.guard = .stopped)) ∧
    (∀ p src b, t.detector.state = .held p src b → t.detector.state ≠ s.detector.state →
      b = s.timing.number + 1 ∧ t.attention.lineFlags.getLsbD 0 = true ∧ t.attention.setFlags.getLsbD 0 = true ∧
        t.queue.guard = (if s.detector.guardTime = 0 then .stopped else .running 0)) ∧
    (t.detector.state = s.detector.state ∨
        ((∀ p src b, s.detector.state ≠ .held p src b) ∧ (∀ p src b, t.detector.state ≠ .held p src b)) →
      t.attention.lineFlags.getLsbD 0 = s.attention.lineFlags.getLsbD 0 ∧
        t.attention.setFlags.getLsbD 0 = s.attention.setFlags.getLsbD 0)

/-- The input link's events (R26, R102, R113, R114, R115): appearance; loss under either source; an input frame that makes a
frame start, and one that does not. That an input frame and the frame start it makes are one event (log 4), and that a loss
of the input ends the internal timing kept across a reset (log 25), are the model's form; that an appearance leaves the
timing source as it is until the first input frame (log 29), and that it is followed without supply (log 19), are its
reading. -/
def Obligations.InputEventsJudgeTheInput : Prop :=
  ∀ s : State,
    exec .inputAppears s = .next { s with pins := { s.pins with signal := true } } ∧
    (s.pins.signal = true → s.pins.supply = true →
      let lost : AttentionUnit :=
        if s.timing.condition = .absent then s.attention else s.attention.raise .input
      (s.generator.effective = .internal →
        exec .inputLost s = .next { s with
          pins := { s.pins with signal := false }
          timing := { s.timing with condition := .absent }
          attention := lost }) ∧
      (s.generator.effective = .external →
        exec .inputLost s = .next { s with
          pins := { s.pins with signal := false }
          timing := { s.timing with
            condition := .absent
            source := .internal
            frame := s.timing.frame.map (fun f => { f with cutOff := true })
            internalTail := false }
          detector := { s.detector with state := .none }
          queue :=
            match s.detector.state with
            | .held _ _ _ => { s.queue with guard := .stopped }
            | _ => s.queue
          attention :=
            match s.detector.state with
            | .held _ _ _ => lost.raise .held
            | _ => lost })) ∧
    (∀ f : InputFrame, f.wellFormed = true → s.pins.supply = true → s.pins.signal = true →
      let judged := fun (latched : Option Descriptor) =>
        match latched with
        | none => InputCondition.present
        | some d => if f.width = d.width ∧ f.height = d.height then .present else .mismatch
      (s.followsInput = false →
        exec (.inputFrameStart f) s = .next { s with
          timing := { s.timing with condition := judged s.engine.latched }
          attention :=
            if judged s.engine.latched = s.timing.condition then s.attention else s.attention.raise .input }) ∧
      (s.followsInput = true →
        exec (.inputFrameStart f) s = exec (.frameStart (.input f)) s ∧
        ∃ t, exec (.inputFrameStart f) s = .next t ∧ t.timing.number = s.timing.number + 1 ∧
          t.timing.condition = judged t.engine.latched ∧
          (t.timing.condition ≠ s.timing.condition →
            t.attention.lineFlags.getLsbD 5 = true ∧ t.attention.setFlags.getLsbD 5 = true)))

/-- The guard and the gap timer (R51, R112, R133). As events of their own at the coming frame start: when its step brings a
timer to its bound, the guard stops, or the load is abandoned with LOAD attention; else nothing happens (log 2). That they
are taken before the rest of that frame start is the model's form (log 3). At a frame start at which no pattern begins or
ceases to be held, a running guard adds the step the frame begun carries and stops when it reaches the guard time; one that
a HOLDING_START has just started goes on as it is (logs 3 and 41). The gap timer adds that step as well, or the load is
abandoned. Every 120 consecutive F60 steps sum to 2000 ms, 100 F50 steps and 240 F120 steps as well. -/
def Obligations.GuardAndGapTimersRunAndExpire : Prop :=
  (∀ s : State, s.pins.supply = true →
    (∀ acc, s.queue.guard = .running acc →
      (s.book.guardFresh = false → s.detector.guardTime ≤ acc + s.comingStep →
        exec .guardExpiry s = .next { s with queue := { s.queue with guard := .stopped } }) ∧
      (s.book.guardFresh = true ∨ acc + s.comingStep < s.detector.guardTime → exec .guardExpiry s = .next s)) ∧
    (s.queue.guard = .stopped → exec .guardExpiry s = .next s) ∧
    (∀ l, s.creds.loading = some l →
      (2000 ≤ l.gap + s.comingStep →
        exec .gapExpiry s = .next { s with
          creds := { slots := s.creds.slots.set l.slot .empty, loading := none }
          attention := s.attention.raise .load }) ∧
      (l.gap + s.comingStep < 2000 → exec .gapExpiry s = .next s)) ∧
    (s.creds.loading = none → exec .gapExpiry s = .next s)) ∧
  (∀ phase : Fin 3,
    ((List.range 120).map (fun k => Family.f60.stepAt ((phase + k) % 3))).sum = 2000 ∧
    ((List.range 100).map (fun _ => Family.f50.stepAt 0)).sum = 2000 ∧
    ((List.range 240).map (fun k => Family.f120.stepAt ((phase + k) % 3))).sum = 2000) ∧
  (∀ (s : State) (o : FrameOrigin), s.frameStartDue o →
    ∃ t f, exec (.frameStart o) s = .next t ∧ t.timing.frame = some f ∧ f.step = s.comingStep ∧
      (t.detector.state = s.detector.state ∨
          ((∀ p src b, s.detector.state ≠ .held p src b) ∧ (∀ p src b, t.detector.state ≠ .held p src b)) →
        (s.queue.guard = .stopped → t.queue.guard = .stopped) ∧
        (∀ acc, s.queue.guard = .running acc →
          (s.book.guardFresh = false →
            t.queue.guard =
              if s.detector.guardTime ≤ acc + f.step then .stopped else .running (acc + f.step)) ∧
          (s.book.guardFresh = true → t.queue.guard = .running acc))) ∧
      (∀ l, s.creds.loading = some l →
        (l.gap + f.step < 2000 →
          t.creds = { slots := s.creds.slots, loading := some { slot := l.slot, gap := l.gap + f.step } }) ∧
        (2000 ≤ l.gap + f.step →
          t.creds = { slots := s.creds.slots.set l.slot .empty, loading := none } ∧
          t.attention.lineFlags.getLsbD 7 = true ∧ t.attention.setFlags.getLsbD 7 = true)))

/-- HOLDING_START and HOLDING_END as events of their own at the coming frame start (R99, R100, R101, R103, R50, R52): the
held record, HELD attention and the guard. A HOLDING_START settles the candidate, makes a new candidate held at once under a
settle time of 0, or takes the start that a HOLDING_END has left. An event that is not due changes nothing (log 2). That
they are taken before the rest of the frame start is the model's form (log 3). -/
def Obligations.HoldingStartsAndEnds : Prop :=
  (∀ s : State, s.pins.supply = true → s.book.judgement = .notTaken →
    (∀ c src src' acc f, s.detector.state = .settling c src acc → s.generator.effective = s.generator.requested →
      s.timing.frame = some f → f.begunReady = true → s.sighting = some (c, src') →
      s.detector.settleTime ≤ acc + f.step →
      exec .holdingStart s = .next { s with
        detector := { s.detector with state := .held c src (s.timing.number + 1) }
        attention := s.attention.raise .held
        queue := { s.queue with guard := if s.detector.guardTime = 0 then .stopped else .running 0 }
        book := { s.book with judgement := .taken, guardFresh := true } }) ∧
    (∀ h src b, s.detector.state = .held h src b →
      s.generator.effective ≠ s.generator.requested ∨
        (∃ f, s.timing.frame = some f ∧ f.begunReady = true ∧ s.sighting = none) →
      exec .holdingEnd s = .next { s with
        detector := { s.detector with state := .none }
        attention := s.attention.raise .held
        queue := { s.queue with guard := .stopped }
        book := { s.book with judgement := .taken } }) ∧
    (∀ h src b f p src', s.detector.state = .held h src b → s.generator.effective = s.generator.requested →
      s.timing.frame = some f → f.begunReady = true → s.sighting = some (p, src') → p ≠ h →
      exec .holdingEnd s = .next { s with
        detector := { s.detector with state := .settling p src' 0 }
        attention := s.attention.raise .held
        queue := { s.queue with guard := .stopped }
        book := { s.book with judgement := if s.detector.settleTime = 0 then .endTaken else .taken } })) ∧
  (∀ (s : State) (p : Pattern) (src : Source), s.pins.supply = true →
    s.generator.effective = s.generator.requested → s.detector.settleTime = 0 →
    ((s.book.judgement = .notTaken ∧ (∃ f, s.timing.frame = some f ∧ f.begunReady = true) ∧
        s.sighting = some (p, src) ∧
        (s.detector.state = .none ∨ ∃ c csrc acc, s.detector.state = .settling c csrc acc ∧ p ≠ c)) ∨
      (s.book.judgement = .endTaken ∧ s.detector.state = .settling p src 0)) →
    exec .holdingStart s = .next { s with
      detector := { s.detector with state := .held p src (s.timing.number + 1) }
      attention := s.attention.raise .held
      queue := { s.queue with guard := if s.detector.guardTime = 0 then .stopped else .running 0 }
      book := { s.book with judgement := .taken, guardFresh := true } }) ∧
  (∀ s : State,
    let unjudged := ∀ f, s.timing.frame = some f → f.begunReady = false
    let same := s.generator.effective = s.generator.requested
    (s.pins.supply = false ∨ s.book.judgement ≠ .notTaken ∨ (∀ h src b, s.detector.state ≠ .held h src b) ∨
        (same ∧ (unjudged ∨ ∃ h src b src', s.detector.state = .held h src b ∧ s.sighting = some (h, src'))) →
      exec .holdingEnd s = .next s) ∧
    (s.pins.supply = false ∨ s.book.judgement = .taken ∨ ¬same ∨
        (s.book.judgement = .endTaken ∧
          (s.detector.settleTime ≠ 0 ∨ ∀ p src, s.detector.state ≠ .settling p src 0)) ∨
        (s.book.judgement = .notTaken ∧
          (unjudged ∨ s.sighting = none ∨ (∃ h src b, s.detector.state = .held h src b) ∨
            (s.detector.settleTime ≠ 0 ∧ ∀ c src acc src', s.detector.state = .settling c src acc →
              s.sighting ≠ some (c, src')) ∨
            ∃ c src acc src' f, s.detector.state = .settling c src acc ∧ s.sighting = some (c, src') ∧
              s.timing.frame = some f ∧ acc + f.step < s.detector.settleTime)) →
      exec .holdingStart s = .next s))

/-! ## Convergence -/

/-- The arithmetic of a processed channel (R28, R82, R83, R85): quotients rounded to the nearest integer with ties upward,
the target trim and its clamp, and the hit count, by the tolerance test. -/
def Obligations.TargetTrimsAndHitsAreComputed : Prop :=
  (∀ n d : Int, 0 < d →
    2 * d * roundDiv n d ≤ 2 * n + d ∧ 2 * n + d < 2 * d * (roundDiv n d + 1)) ∧
  (∀ (t : Int) (target : Nat), targetTrim t { luminance := 0, target := target } = (8191, true)) ∧
  (∀ (t : Int) (target luminance : Nat), 0 < luminance →
    let exact := (2 * ((32768 + t) * target) + luminance) / (2 * luminance) - 32768
    (-8192 ≤ exact ∧ exact ≤ 8191 →
      targetTrim t { luminance := luminance, target := target } = (exact, false)) ∧
    (exact < -8192 → targetTrim t { luminance := luminance, target := target } = (-8192, true)) ∧
    (8191 < exact → targetTrim t { luminance := luminance, target := target } = (8191, true))) ∧
  (∀ (l : LoopParameters) (h : Nat) (m : Measurement), l.inRange → h ≤ 15 →
    (((m.target : Int) - m.luminance).natAbs * 1024 ≤ l.tolerance * m.target → newHits l h m = min 15 (h + 1)) ∧
    (l.tolerance * m.target < ((m.target : Int) - m.luminance).natAbs * 1024 → newHits l h m = 0) ∧
    (m.luminance = 0 → 0 < m.target → newHits l h m = 0))

/-- The new trim (R84): t plus the step, which is d·k/256 rounded and brought within the step limit. The step lies between 0
and d, so the new trim lies between t and its target and within the trim range; with k = 256 and a large enough limit it
is the target; a channel at its target keeps its trim; with k = 128 a distance of +1 moves it and one of −1 does not. A
reading whose target trim lies one unit below the trim is within the tolerance of its target. -/
def Obligations.NewTrimStaysBetweenTrimAndTarget : Prop :=
  ∀ (l : LoopParameters) (t target : Int), l.inRange → trimInRange t → trimInRange target →
    (-16383 ≤ target - t ∧ target - t ≤ 16383) ∧
    newTrim l t target =
      t + max (-(l.stepLimit : Int)) (min l.stepLimit ((2 * ((target - t) * l.coefficient) + 256) / 512)) ∧
    min t target ≤ newTrim l t target ∧ newTrim l t target ≤ max t target ∧ trimInRange (newTrim l t target) ∧
    (target - t).natAbs ≥ (newTrim l t target - t).natAbs ∧ (newTrim l t target - t).natAbs ≤ l.stepLimit ∧
    (l.coefficient = 256 → (target - t).natAbs ≤ l.stepLimit → newTrim l t target = target) ∧
    (target = t → newTrim l t target = t) ∧
    (l.coefficient = 128 → target = t + 1 → newTrim l t target = t + 1) ∧
    (l.coefficient = 128 → target = t - 1 → newTrim l t target = t) ∧
    (∀ m : Measurement, 0 < m.luminance → targetTrim t m = (t - 1, false) →
      ((m.target : Int) - m.luminance).natAbs * 1024 ≤ l.tolerance * m.target)

/-- Set Targets, Set Convergence and Read Convergence (R65, R67, R87): the targets and the clamped parameters in effect, and
the counts reported and then set to 0. Set Targets is refused without a grid, then for a plane the grid has not. The
MQ_LIMIT byte is a free value (log 6); that the tolerance travels in 16 bits in every reply is the model's reading
(log 8). -/
def Obligations.ConvergenceSettingsAreSetAndRead : Prop :=
  ∀ (s : State) (p : PortId) (level tag : Byte),
    (s.admits p level 1 → s.modes.shipping = false →
      (∀ d (plane : Fin 8) (r g b : Nat), s.grid.descriptor = some d → plane.val < d.planes →
        r < 65536 → g < 65536 → b < 65536 →
        exec (.setTargets p (frameOf level tag (u8 plane ++ u16 r ++ u16 g ++ u16 b))) s =
          .next (({ s with
              conv := { s.conv with targets := s.conv.targets.set plane ⟨r, g, b⟩ } } : State).answered p tag .ok
            (u8 plane ++ u16 r ++ u16 g ++ u16 b))) ∧
      (∀ payload : List Byte, payload.length = 7 → s.grid.descriptor = none →
        exec (.setTargets p (frameOf level tag payload)) s = .next (s.answered p tag .noGrid [])) ∧
      (∀ d (plane : Nat) (rest : List Byte), s.grid.descriptor = some d → plane < 256 → d.planes ≤ plane →
        rest.length = 6 →
        exec (.setTargets p (frameOf level tag (u8 plane ++ rest))) s = .next (s.answered p tag .badValue [])) ∧
      (∀ k limit tol settle : Nat, k < 65536 → limit < 65536 → tol < 65536 → settle < 256 →
        let l : LoopParameters :=
          { coefficient := max 1 (min 256 k), stepLimit := max 1 (min 8191 limit), tolerance := max 1 (min 255 tol),
            settleCount := max 1 (min 15 settle) }
        exec (.setConvergence p (frameOf level tag (u16 k ++ u16 limit ++ u16 tol ++ u8 settle))) s =
          .next (({ s with conv := { s.conv with parameters := l } } : State).answered p tag .ok
            (u16 l.coefficient ++ u16 l.stepLimit ++ u16 l.tolerance ++ u8 l.settleCount)))) ∧
    (s.admits p level 2 →
      exec (.readConvergence p (frameOf level tag [])) s =
        .next (({ s with conv := { s.conv with processed := 0, stale := 0, ignored := 0 } } : State).answered p tag .ok
          (u8 s.conv.readings.length ++ truthByte .mqLimit (decide (61 ≤ s.conv.readings.length)) ++
            u16 s.conv.processed ++ u16 s.conv.stale ++ u16 s.conv.ignored ++ u16 s.conv.parameters.coefficient ++
            u16 s.conv.parameters.stepLimit ++ u16 s.conv.parameters.tolerance ++
            u8 s.conv.parameters.settleCount ++
            s.conv.targets.toList.flatMap (fun t => u16 t.r ++ u16 t.g ++ u16 t.b))))

/-- A batch of readings that is taken (R68, R69, R70, R71, R74): it joins the tail of the Measurement Queue in its order,
each reading with its targets and the intake frame; MQ_LIMIT attention as the occupancy reaches 61. The refusals, in their
order (R69): nothing is queued, and a check made reading by reading answers with the index of the first that fails it. -/
def Obligations.SubmitReadingsJoinTheQueue : Prop :=
  (∀ (s : State) (p : PortId) (level tag : Byte) (d : Descriptor) (plane : Fin 8) (held : Pattern) (src : Source)
    (begun : FrameNumber) (readings : List (Nat × Nat × ChannelSet × Rgb Nat)),
    s.admits p level 1 → s.modes.shipping = false → s.grid.descriptor = some d → d.sound → plane.val < d.planes →
    s.detector.state = .held held src begun → held.tag < 256 → held.kind = .flat →
    d.levels[plane.val]? = some held.level →
    1 ≤ readings.length → readings.length ≤ 16 → s.conv.readings.length + readings.length ≤ 64 →
    (∀ x ∈ readings, x.1 < d.columns ∧ x.2.1 < d.rows ∧ someChannel x.2.2.1 ∧
      everyChannel (fun m : Nat => m < 65536) x.2.2.2 ∧
      (x.2.2.1.r = true → held.channels.r = true ∧ s.conv.targets[plane].r ≠ 0) ∧
      (x.2.2.1.g = true → held.channels.g = true ∧ s.conv.targets[plane].g ≠ 0) ∧
      (x.2.2.1.b = true → held.channels.b = true ∧ s.conv.targets[plane].b ≠ 0)) →
    exec (.submitReadings p (frameOf level tag
      (u8 held.tag ++ u8 plane ++ u8 readings.length ++
        readings.flatMap (fun x =>
          u16 x.1 ++ u16 x.2.1 ++ u8 (channelNumber x.2.2.1) ++ channelFields u16 x.2.2.1 x.2.2.2)))) s =
      .next (({ s with
          conv := { s.conv with
            readings := s.conv.readings ++ readings.map (fun x =>
              { column := x.1, row := x.2.1, plane := plane,
                values := (carried x.2.2.1 x.2.2.2).map2
                  (fun m target => m.map (fun y => { luminance := y, target := target })) s.conv.targets[plane],
                intake := s.timing.number }) }
          attention :=
            if 61 ≤ s.conv.readings.length + readings.length ∧ s.conv.readings.length < 61
            then s.attention.raise .mqLimit else s.attention } : State).answered p tag .ok
        (u8 readings.length ++ u32 s.timing.number.toNat ++ u8 (s.conv.readings.length + readings.length)))) ∧
  (∀ (s : State) (p : PortId) (level tag : Byte), s.admits p level 1 → s.modes.shipping = false →
    let reading := fun x : Nat × Nat × ChannelSet × Rgb Nat =>
      u16 x.1 ++ u16 x.2.1 ++ u8 (channelNumber x.2.2.1) ++ channelFields u16 x.2.2.1 x.2.2.2
    let answer := fun (payload : List Byte) (status : Status) (fields : List Byte) =>
      exec (.submitReadings p (frameOf level tag payload)) s = .next (s.answered p tag status fields)
    (∀ payload : List Byte, payload.length ≤ 256 → s.grid.descriptor = none → answer payload .noGrid []) ∧
    (∀ (d : Descriptor) (name plane count : Nat) (rest : List Byte), s.grid.descriptor = some d → name < 256 →
      plane < 256 → count < 256 → rest.length ≤ 253 → d.planes ≤ plane ∨ count = 0 ∨ 16 < count →
      answer (u8 name ++ u8 plane ++ u8 count ++ rest) .badValue []) ∧
    (∀ (d : Descriptor) (name plane count : Nat) (readings : List (Nat × Nat × ChannelSet × Rgb Nat)),
      s.grid.descriptor = some d → name < 256 → plane < 256 → plane < d.planes → 1 ≤ count → count ≤ 16 →
      readings.length ≤ count →
      (∀ x ∈ readings, x.1 < 65536 ∧ x.2.1 < 65536 ∧ someChannel x.2.2.1 ∧
        everyChannel (fun m : Nat => m < 65536) x.2.2.2) →
      (readings.length < count → ∀ (column row set : Nat) (rest : List Byte), column < 65536 → row < 65536 →
        set = 0 ∨ 7 < set → set < 256 → rest.length ≤ 60 →
        answer (u8 name ++ u8 plane ++ u8 count ++ readings.flatMap reading ++ u16 column ++ u16 row ++ u8 set ++ rest)
          .badValue []) ∧
      (readings.length < count →
        answer (u8 name ++ u8 plane ++ u8 count ++ readings.flatMap reading) .badLength []) ∧
      (readings.length = count → ∀ rest : List Byte, rest ≠ [] → rest.length ≤ 60 →
        answer (u8 name ++ u8 plane ++ u8 count ++ readings.flatMap reading ++ rest) .badLength [])) ∧
    (∀ (d : Descriptor) (name : Nat) (plane : Fin 8) (readings : List (Nat × Nat × ChannelSet × Rgb Nat)),
      s.grid.descriptor = some d → name < 256 → plane.val < d.planes → 1 ≤ readings.length → readings.length ≤ 16 →
      (∀ x ∈ readings, x.1 < 65536 ∧ x.2.1 < 65536 ∧ someChannel x.2.2.1 ∧
        everyChannel (fun m : Nat => m < 65536) x.2.2.2) →
      let payload := u8 name ++ u8 plane ++ u8 readings.length ++ readings.flatMap reading
      ((∀ h src b, s.detector.state = .held h src b → h.tag ≠ name ∨ h.kind ≠ .flat) →
        answer payload .stalePattern []) ∧
      (∀ h src b, s.detector.state = .held h src b → h.tag = name → h.kind = .flat →
        let shown := fun x : Nat × Nat × ChannelSet × Rgb Nat =>
          (x.2.2.1.r = true → h.channels.r = true) ∧ (x.2.2.1.g = true → h.channels.g = true) ∧
            (x.2.2.1.b = true → h.channels.b = true)
        let aimed := fun x : Nat × Nat × ChannelSet × Rgb Nat =>
          (x.2.2.1.r = true → s.conv.targets[plane].r ≠ 0) ∧ (x.2.2.1.g = true → s.conv.targets[plane].g ≠ 0) ∧
            (x.2.2.1.b = true → s.conv.targets[plane].b ≠ 0)
        let inGrid := fun x : Nat × Nat × ChannelSet × Rgb Nat => x.1 < d.columns ∧ x.2.1 < d.rows
        let level := d.levels[plane.val]? = some h.level
        (¬level → answer payload .levelMismatch []) ∧
        (∀ (before after : List (Nat × Nat × ChannelSet × Rgb Nat)) (x : Nat × Nat × ChannelSet × Rgb Nat),
          readings = before ++ x :: after → level →
          ((∀ y ∈ before, shown y) → ¬shown x → answer payload .levelMismatch (u8 before.length)) ∧
          ((∀ y ∈ readings, shown y) → (∀ y ∈ before, aimed y) → ¬aimed x →
            answer payload .noTarget (u8 before.length)) ∧
          ((∀ y ∈ readings, shown y ∧ aimed y) → (∀ y ∈ before, inGrid y) → ¬inGrid x →
            answer payload .outOfGrid (u8 before.length))) ∧
        (level → (∀ y ∈ readings, shown y ∧ aimed y ∧ inGrid y) → 64 < s.conv.readings.length + readings.length →
          answer payload .queueFull []))))

/-- An examination (R75, R76, R77, R78, R81, R86): the head reading ends stale, ignored or processed; with an empty Measurement
Queue or a full Update Queue nothing is examined. -/
def Obligations.ExaminationEndsTheHeadReading : Prop :=
  ∀ s : State, s.pins.supply = true →
    (s.conv.readings = [] ∨ 256 ≤ s.queue.entries.length → exec .examineReading s = .next s) ∧
    (∀ (q : Reading) (rest : List Reading) (d : Descriptor) (r : KnotRecord),
      s.conv.readings = q :: rest → s.queue.entries.length < 256 → s.grid.descriptor = some d →
      s.grid.records[recordPlace d q.plane q.row q.column]? = some r →
      let touched := ∃ e ∈ s.queue.entries, e.touches q.column q.row q.plane = true
      let late := ∃ a, r.applied = some a ∧ a ≠ q.intake ∧ (a - q.intake).toNat < 2 ^ 31
      let counted := fun n : Nat => if n < 65535 then n + 1 else n
      let l := s.conv.parameters
      let trim := fun (t : Int) (v : Option Measurement) =>
        match v with
        | none => t
        | some m => newTrim l t (targetTrim t m).1
      let hits := fun (h : Nat) (v : Option Measurement) =>
        match v with
        | none => h
        | some m => newHits l h m
      let clamped := fun (t : Int) (v : Option Measurement) =>
        match v with
        | none => false
        | some m => (targetTrim t m).2
      let limited := fun (t : Int) (before : Bool) (v : Option Measurement) =>
        match v with
        | none => before
        | some m => (targetTrim t m).2
      let newHit : Rgb Nat := ⟨hits r.hits.r q.values.r, hits r.hits.g q.values.g, hits r.hits.b q.values.b⟩
      (touched ∨ late →
        exec .examineReading s = .next { s with
          conv := { s.conv with readings := rest, stale := counted s.conv.stale }
          attention := s.attention.raise .stale }) ∧
      (¬touched → ¬late → r.state = .pinned ∨ r.state = .retired →
        exec .examineReading s = .next { s with
          conv := { s.conv with readings := rest, ignored := counted s.conv.ignored } }) ∧
      (¬touched → ¬late → r.state ≠ .pinned → r.state ≠ .retired →
        exec .examineReading s = .next { s with
          conv := { s.conv with readings := rest, processed := counted s.conv.processed }
          queue := { s.queue with
            entries := s.queue.entries ++
              [.converge q.column q.row q.plane
                ⟨trim r.trim.r q.values.r, trim r.trim.g q.values.g, trim r.trim.b q.values.b⟩ newHit
                ⟨limited r.trim.r r.limit.r q.values.r, limited r.trim.g r.limit.g q.values.g,
                  limited r.trim.b r.limit.b q.values.b⟩
                (if l.settleCount ≤ newHit.r ∧ l.settleCount ≤ newHit.g ∧ l.settleCount ≤ newHit.b then .converged
                  else .tracking)] }
          attention :=
            if clamped r.trim.r q.values.r || clamped r.trim.g q.values.g || clamped r.trim.b q.values.b
            then s.attention.raise .trimLimit else s.attention }))

/-! ## Patterns -/

/-- Select Source, Show Pattern and Set Pattern Timing (R91, R94, R106): the requested source, the stored pattern (the stopped
one for tag 0) and the two times lowered to 2000 ms, with their replies. Another source, and whatever the tag another kind,
a level above 1023 and another channel set, are BAD_VALUE. -/
def Obligations.PatternRequestsSetSourcePatternAndTimes : Prop :=
  ∀ (s : State) (p : PortId) (level tag : Byte), s.admits p level 1 → s.modes.shipping = false →
    (∀ source : Source,
      exec (.selectSource p (frameOf level tag (u8 source.number))) s =
        .next (({ s with generator := { s.generator with requested := source } } : State).answered p tag .ok
          (u8 s.generator.effective.number ++ u8 source.number))) ∧
    (∀ value : Byte, 2 ≤ value.toNat →
      exec (.selectSource p (frameOf level tag [value])) s = .next (s.answered p tag .badValue [])) ∧
    (∀ (name : Nat) (kind : PatternKind) (code : Nat) (c : ChannelSet), name < 256 → code < 65536 → someChannel c →
      let request := Instr.showPattern p (frameOf level tag
        (u8 name ++ u8 kind.number ++ u16 code ++ u8 (channelNumber c)))
      (1023 < code → exec request s = .next (s.answered p tag .badValue [])) ∧
      (code ≤ 1023 → 0 < name →
        exec request s =
          .next (({ s with
              generator := { s.generator with
                stored := .test { tag := name, kind := kind, level := code, channels := c } } } : State).answered p tag
            .ok
            (u8 name ++ u8 kind.number ++ u16 code ++ u8 (channelNumber c) ++ u8 s.generator.effective.number ++
              u8 s.generator.requested.number))) ∧
      (code ≤ 1023 → name = 0 →
        exec request s =
          .next (({ s with generator := { s.generator with stored := .stopped } } : State).answered p tag .ok
            ([0, 0, 0, 0, 0] ++ u8 s.generator.effective.number ++ u8 s.generator.requested.number)))) ∧
    (∀ name kind code set : Nat, name < 256 → kind < 256 → code < 65536 → set < 256 →
      1 < kind ∨ 1023 < code ∨ set = 0 ∨ 7 < set →
      exec (.showPattern p (frameOf level tag (u8 name ++ u8 kind ++ u16 code ++ u8 set))) s =
        .next (s.answered p tag .badValue [])) ∧
    (∀ settle guard : Nat, settle < 65536 → guard < 65536 →
      exec (.setPatternTiming p (frameOf level tag (u16 settle ++ u16 guard))) s =
        .next (({ s with
            detector := { s.detector with settleTime := min settle 2000, guardTime := min guard 2000 } } : State).answered
          p tag .ok (u16 (min settle 2000) ++ u16 (min guard 2000))))

/-! ## Region profiles -/

/-- Store Region, Retire Region and Erase Region (R117, R121, R122): the profile stored with its ceiling brought into
512..1023, retired with its fields kept, or made EMPTY; the dirty flag follows a change. The number of the bypass permission
and the shape of the reply are the model's reading (logs 7 and 15). The refusals of the three, and of Select Region but for
a RETIRED profile, in the order of their checks (R117, R119, R121, R122): nothing changes. -/
def Obligations.RegionRequestsChangeProfiles : Prop :=
  (∀ (s : State) (p : PortId) (level tag : Byte) (i : Fin 8), s.admits p level 0 →
    s.saveRuns = false → s.modes.shipping = false → s.regions.selection ≠ some i →
    (∀ (code ceiling : Nat) (family : Family) (content platform viewer : Bool),
      1 ≤ code → code ≤ 999 → ceiling < 65536 →
      (s.regions.profiles[i] = .empty ∨ ∃ x, s.regions.profiles[i] = .held .stored x) →
      (∀ j : Fin 8, j ≠ i → ∀ st x, s.regions.profiles[j] = .held st x → x.code ≠ code) →
      let region : Region :=
        { code := code, family := family, ceiling := max 512 (min 1023 ceiling), allowsContent := content,
          allowsPlatform := platform, viewerBypass := viewer }
      exec (.storeRegion p (frameOf level tag
        (u8 i ++ u16 code ++ u8 family.number ++ u16 ceiling ++
          u8 ((if content then 1 else 0) + (if platform then 2 else 0)) ++ [if viewer then 0 else 1]))) s =
        .next (({ s with
            regions := { s.regions with profiles := s.regions.profiles.set i (.held .stored region) }
            store := { s.store with dirty := true } } : State).answered p tag .ok
          (u8 1 ++ u16 code ++ u8 family.number ++ u16 region.ceiling ++
            u8 ((if content then 1 else 0) + (if platform then 2 else 0)) ++ [if viewer then 0 else 1]))) ∧
    (∀ x, s.regions.profiles[i] = .held .stored x → 1 ≤ x.code → x.code ≤ 999 →
      (∀ j : Fin 8, j < i → ∀ st y, s.regions.profiles[j] = .held st y → y.code ≠ x.code) →
      exec (.retireRegion p (frameOf level tag (u16 x.code))) s =
        .next (({ s with
            regions := { s.regions with profiles := s.regions.profiles.set i (.held .retired x) }
            store := { s.store with dirty := true } } : State).answered p tag .ok (u8 i ++ u16 x.code))) ∧
    (s.regions.profiles[i] = .empty →
      exec (.eraseRegion p (frameOf level tag (u8 i))) s = .next (s.answered p tag .ok (u8 i))) ∧
    (∀ st x, s.regions.profiles[i] = .held st x → st ≠ .active →
      exec (.eraseRegion p (frameOf level tag (u8 i))) s =
        .next (({ s with
            regions := { s.regions with profiles := s.regions.profiles.set i .empty }
            store := { s.store with dirty := true } } : State).answered p tag .ok (u8 i)))) ∧
  (∀ (s : State) (p : PortId) (level tag : Byte), s.admits p level 0 →
    let free := s.saveRuns = false ∧ s.modes.shipping = false
    (∀ index code family ceiling allowance flag : Nat, index < 256 → code < 65536 → family < 256 → ceiling < 65536 →
      allowance < 256 → flag < 256 →
      let answer := fun status => exec (.storeRegion p (frameOf level tag
        (u8 index ++ u16 code ++ u8 family ++ u16 ceiling ++ u8 allowance ++ u8 flag))) s =
          .next (s.answered p tag status [])
      let ranged := index ≤ 7 ∧ (1 ≤ code ∧ code ≤ 999) ∧ family ≤ 2 ∧ allowance ≤ 3 ∧ flag ≤ 1
      (¬ranged → answer .badValue) ∧
      (ranged → ¬free → answer .busy) ∧
      (ranged → free → ∀ i : Fin 8, i.val = index →
        (∀ x, s.regions.profiles[i] = .held .active x → answer .active) ∧
        ((∀ x, s.regions.profiles[i] ≠ .held .active x) → s.regions.selection = some i → answer .selected) ∧
        (∀ x, s.regions.profiles[i] = .held .retired x → s.regions.selection ≠ some i → answer .retired) ∧
        ((∀ x, s.regions.profiles[i] ≠ .held .active x) → (∀ x, s.regions.profiles[i] ≠ .held .retired x) →
          s.regions.selection ≠ some i →
          ∀ (j : Fin 8) st x, j ≠ i → s.regions.profiles[j] = .held st x → x.code = code → answer .duplicate))) ∧
    (∀ code : Nat, code < 65536 →
      let answer := fun status => exec (.retireRegion p (frameOf level tag (u16 code))) s =
        .next (s.answered p tag status [])
      (code < 1 ∨ 999 < code → answer .badValue) ∧
      (1 ≤ code → code ≤ 999 → ¬free → answer .busy) ∧
      (1 ≤ code → code ≤ 999 → free →
        ((∀ (i : Fin 8) st x, s.regions.profiles[i] = .held st x → x.code ≠ code) → answer .notFound) ∧
        (∀ (i : Fin 8) st x, s.regions.profiles[i] = .held st x → x.code = code →
          (∀ (j : Fin 8) st' y, j < i → s.regions.profiles[j] = .held st' y → y.code ≠ code) →
          (st = .active → answer .active) ∧
          (st ≠ .active → s.regions.selection = some i → answer .selected) ∧
          (st = .retired → s.regions.selection ≠ some i → answer .retired)))) ∧
    (∀ index : Nat, index < 256 →
      let answer := fun status => exec (.eraseRegion p (frameOf level tag (u8 index))) s =
        .next (s.answered p tag status [])
      (7 < index → answer .badValue) ∧
      (index ≤ 7 → ¬free → answer .busy) ∧
      (free → ∀ i : Fin 8, i.val = index →
        (∀ x, s.regions.profiles[i] = .held .active x → answer .active) ∧
        ((∀ x, s.regions.profiles[i] ≠ .held .active x) → s.regions.selection = some i → answer .selected)))) ∧
  (∀ (s : State) (p : PortId) (level tag : Byte) (code : Nat), s.admits p level 1 → code < 65536 →
    let free := s.saveRuns = false ∧ s.modes.shipping = false
    let answer := fun status => exec (.selectRegion p (frameOf level tag (u16 code))) s =
      .next (s.answered p tag status [])
    (code < 1 ∨ 999 < code → answer .badValue) ∧
    (1 ≤ code → code ≤ 999 → ¬free → answer .busy) ∧
    (1 ≤ code → code ≤ 999 → free →
      (∀ (i : Fin 8) st x, s.regions.profiles[i] = .held st x → x.code ≠ code) → answer .notFound))

/-- Select Region, Look Up Region and Read Regions (R118, R119): a STORED profile becomes the pending selection, an ACTIVE one
leaves everything, a RETIRED one is refused; the profile found by its code, or NOT_FOUND, or BAD_VALUE for a code outside
1..999; all profiles and the selection.
The truth value of Look Up Region is a free value (log 6); how a profile's fields travel is the model's reading (logs 7
and 9). -/
def Obligations.RegionsAreSelectedAndReported : Prop :=
  ∀ (s : State) (p : PortId) (level tag : Byte), s.admits p level 2 →
    (∀ (i : Fin 8) (st : ProfileState) (x : Region), s.regions.profiles[i] = .held st x →
      1 ≤ x.code → x.code ≤ 999 →
      (∀ j : Fin 8, j < i → ∀ st' y, s.regions.profiles[j] = .held st' y → y.code ≠ x.code) →
      (s.effectiveLevel p level ≤ 1 → s.saveRuns = false → s.modes.shipping = false →
        (st = .stored →
          exec (.selectRegion p (frameOf level tag (u16 x.code))) s =
            .next (({ s with regions := { s.regions with selection := some i } } : State).answered p tag .ok
              (optional u16 (s.regions.active?.map (·.code)) ++ u8 1 ++ u16 x.code))) ∧
        (st = .active →
          exec (.selectRegion p (frameOf level tag (u16 x.code))) s =
            .next (s.answered p tag .ok
              (optional u16 (s.regions.active?.map (·.code)) ++ optional u16 s.regions.pendingCode?))) ∧
        (st = .retired →
          exec (.selectRegion p (frameOf level tag (u16 x.code))) s = .next (s.answered p tag .retired []))) ∧
      exec (.lookUpRegion p (frameOf level tag (u16 x.code))) s =
        .next (s.answered p tag .ok
          (u8 i ++ (Profile.held st x).bytes ++ truthByte .lookUpPending (s.regions.selection == some i)))) ∧
    (∀ code : Nat, 1 ≤ code → code ≤ 999 →
      (∀ j : Fin 8, ∀ st y, s.regions.profiles[j] = .held st y → y.code ≠ code) →
      exec (.lookUpRegion p (frameOf level tag (u16 code))) s = .next (s.answered p tag .notFound [])) ∧
    (∀ code : Nat, code < 1 ∨ 999 < code → code < 65536 →
      exec (.lookUpRegion p (frameOf level tag (u16 code))) s = .next (s.answered p tag .badValue [])) ∧
    exec (.readRegions p (frameOf level tag [])) s =
      .next (s.answered p tag .ok
        (s.regions.profiles.toList.flatMap Profile.bytes ++
          (match s.regions.selection with
            | none => u8 0
            | some i => u8 1 ++ u8 i)))

/-! ## Credentials -/

/-- Begin Load and Load Chunk that are taken (R130, R131, R132): the slot LOADING with no data and the gap timer at 0; the
chunk joined at its offset and the timer restarted. A chunk at another offset is OUT_OF_ORDER, and one past the declared
length BAD_VALUE, each with both lengths and no change. The other refusals of both, in the order of their checks (R130,
R132): nothing changes. No level that the port admits meets the mode check, since the ports' floors come before it. That
the lengths travel in this order is the model's reading (log 13); so is that a chunk without a data byte fails the check of
its length (log 12), and that a chunk of none or more than 64 bytes is answered without lengths even where the slot is
LOADING (log 14). -/
def Obligations.KeysAreLoadedInChunks : Prop :=
  (∀ (s : State) (p : PortId) (level tag : Byte) (i : Fin 16) (class_ : KeyClass) (declared : Nat),
    s.admits p level (if class_ = .service then 0 else 1) → s.store.write = .idle → s.modes.shipping = false →
    (lengthSound class_ declared → s.creds.loading = none →
      (s.creds.slots[i] = .empty ∨ (s.modes.mode = .service ∧ s.creds.slots[i].isRevoked = true)) →
      (class_ = .service → ∀ j : Fin 16, j ≠ i → s.creds.slots[j].class? ≠ some .service) →
      exec (.beginLoad p (frameOf level tag (u8 i ++ u8 class_.number ++ u16 declared))) s =
        .next (({ s with
            creds := { slots := s.creds.slots.set i (.loading class_ declared []),
                       loading := some { slot := i, gap := 0 } } } : State).answered p tag .ok
          (u8 i ++ u8 class_.number ++ u16 declared))) ∧
    (∀ (received data : List Byte) (offset : Nat), s.creds.slots[i] = .loading class_ declared received →
      1 ≤ data.length → data.length ≤ 64 → offset < 65536 →
      (offset = received.length → received.length + data.length ≤ declared →
        exec (.loadChunk p (frameOf level tag (u8 i ++ u16 offset ++ data))) s =
          .next (({ s with
              creds := { slots := s.creds.slots.set i (.loading class_ declared (received ++ data)),
                         loading := some { slot := i, gap := 0 } } } : State).answered p tag .ok
            (u16 (received.length + data.length) ++ u16 declared))) ∧
      (offset ≠ received.length →
        exec (.loadChunk p (frameOf level tag (u8 i ++ u16 offset ++ data))) s =
          .next (s.answered p tag .outOfOrder (u16 received.length ++ u16 declared))) ∧
      (offset = received.length → declared < received.length + data.length →
        exec (.loadChunk p (frameOf level tag (u8 i ++ u16 offset ++ data))) s =
          .next (s.answered p tag .badValue (u16 received.length ++ u16 declared))))) ∧
  (∀ (s : State) (p : PortId) (level tag : Byte),
    let free := s.store.write = .idle ∧ s.modes.shipping = false
    (∀ slot number declared : Nat, s.admits p level (if number = 2 then 0 else 1) → slot < 256 → number < 256 →
      declared < 65536 →
      let answer := fun status => exec (.beginLoad p (frameOf level tag (u8 slot ++ u8 number ++ u16 declared))) s =
        .next (s.answered p tag status [])
      let ranged := slot ≤ 15 ∧ number ≤ 2 ∧ (16 ≤ declared ∧ declared ≤ 1024 ∧ declared % 16 = 0) ∧
        (number = 2 → declared = 32)
      let idle := s.creds.loading = none ∧ free
      (¬ranged → answer .badValue) ∧
      (ranged → ¬idle → answer .busy) ∧
      (ranged → idle → ∀ i : Fin 16, i.val = slot →
        let open_ := s.creds.slots[i] = .empty ∨ (s.modes.mode = .service ∧ s.creds.slots[i].isRevoked = true)
        (¬open_ → answer .slotState) ∧
        (open_ → number = 2 → ∀ j : Fin 16, j ≠ i → s.creds.slots[j].class? = some .service → answer .duplicate))) ∧
    (∀ (slot offset : Nat) (data : List Byte), s.listens p → s.store.startUp = .ready → slot < 256 → offset < 65536 →
      data.length ≤ 253 →
      let answer := fun status => exec (.loadChunk p (frameOf level tag (u8 slot ++ u16 offset ++ data))) s =
        .next (s.answered p tag status [])
      (s.effectiveLevel p level ≤ 1 → 15 < slot → answer .badValue) ∧
      (∀ i : Fin 16, i.val = slot →
        s.effectiveLevel p level = 0 ∨
          (s.effectiveLevel p level ≤ 1 ∧ ∀ n d, s.creds.slots[i] ≠ .loading .service n d) →
        (data.length < 1 ∨ 64 < data.length → answer .badValue) ∧
        (1 ≤ data.length → data.length ≤ 64 → ¬free → answer .busy) ∧
        (1 ≤ data.length → data.length ≤ 64 → free → s.creds.slots[i].isLoading = false → answer .slotState))))

/-- End Load and Abort Load (R134, R135): LOADED with the check value of the data, and the dirty flag; EMPTY on a differing
expected value, with CHECK_MISMATCH; BAD_LENGTH with both lengths while data is missing; EMPTY on an abort. The order of
the two lengths is the model's reading (log 13). The two check values that R128 gives as a check of an implementation. The
other refusals of both, in the order of their checks: nothing changes. -/
def Obligations.LoadsEndOrAbort : Prop :=
  (checkValue [0x31, 0x32, 0x33, 0x34, 0x35, 0x36, 0x37, 0x38, 0x39] = 0xCBF43926 ∧ checkValue [0x61] = 0xE8B7BE43) ∧
  (∀ (s : State) (p : PortId) (level tag : Byte), s.listens p → s.store.startUp = .ready →
    let free := s.store.write = .idle ∧ s.modes.shipping = false
    (s.effectiveLevel p level = 0 → ∀ payload : List Byte, payload.length ≤ 256 →
      (payload.length ≠ 2 ∧ payload.length ≠ 6) ∨
        (∃ presence : Byte, payload[1]? = some presence ∧ presence ≠ 0 ∧ presence ≠ 1) →
      exec (.endLoad p (frameOf level tag payload)) s = .next (s.answered p tag .badLength [])) ∧
    (∀ (slot : Nat) (expected : Option CheckValue), slot < 256 →
      let answer := fun status =>
        exec (.endLoad p (frameOf level tag
          (u8 slot ++ (match expected with | none => u8 0 | some k => u8 1 ++ u32 k.toNat)))) s =
            .next (s.answered p tag status []) ∧
        exec (.abortLoad p (frameOf level tag (u8 slot))) s = .next (s.answered p tag status [])
      (s.effectiveLevel p level ≤ 1 → 15 < slot → answer .badValue) ∧
      (∀ i : Fin 16, i.val = slot →
        s.effectiveLevel p level = 0 ∨
          (s.effectiveLevel p level ≤ 1 ∧ ∀ n d, s.creds.slots[i] ≠ .loading .service n d) →
        (¬free → answer .busy) ∧
        (free → s.creds.slots[i].isLoading = false → answer .slotState)))) ∧
  ∀ (s : State) (p : PortId) (level tag : Byte) (i : Fin 16) (class_ : KeyClass) (declared : Nat) (data : List Byte),
    s.admits p level (if class_ = .service then 0 else 1) → s.store.write = .idle → s.modes.shipping = false →
    s.creds.slots[i] = .loading class_ declared data →
    (∀ expected : Option CheckValue,
      let request := Instr.endLoad p (frameOf level tag
        (u8 i ++ (match expected with | none => u8 0 | some k => u8 1 ++ u32 k.toNat)))
      (data.length = declared → (∀ k, expected = some k → k = checkValue data) →
        exec request s =
          .next (({ s with
              creds := { slots := s.creds.slots.set i (.loaded class_ declared data (checkValue data)), loading := none }
              store := { s.store with dirty := true } } : State).answered p tag .ok
            (u8 i ++ u8 class_.number ++ u16 declared ++ u32 (checkValue data).toNat))) ∧
      (data.length = declared → ∀ k, expected = some k → k ≠ checkValue data →
        exec request s =
          .next (({ s with
              creds := { slots := s.creds.slots.set i .empty, loading := none } } : State).answered p tag .checkMismatch
            (u32 (checkValue data).toNat))) ∧
      (data.length ≠ declared →
        exec request s = .next (s.answered p tag .badLength (u16 data.length ++ u16 declared)))) ∧
    exec (.abortLoad p (frameOf level tag (u8 i))) s =
      .next (({ s with
          creds := { slots := s.creds.slots.set i .empty, loading := none } } : State).answered p tag .ok [])

/-- Read Slot, Fetch Key and Erase Slot (R137, R138, R141): the fields of the slot's state and never its data; at most 64 bytes
of a BOUND key of an allowed class, on the Set Port and outside FACTORY mode; a LOADED or REVOKED slot made EMPTY. The
refusals of Fetch Key, in the order of its checks, and those by slot number and of an Erase Slot while the image is written.
That Read Slot sends the fields of the slot's state without presence bytes is the model's reading (log 9). -/
def Obligations.SlotsAreReadDeliveredAndErased : Prop :=
  (∀ (s : State) (p : PortId) (level tag : Byte) (i : Fin 16), s.admits p level 2 →
    exec (.readSlot p (frameOf level tag (u8 i))) s =
      .next (s.answered p tag .ok (u8 i ++
        (match s.creds.slots[i] with
          | .empty => u8 0
          | .loading c n d => u8 1 ++ u8 c.number ++ u16 n ++ u16 d.length
          | .loaded c n _ k => u8 2 ++ u8 c.number ++ u16 n ++ u32 k.toNat
          | .bound c n _ k => u8 3 ++ u8 c.number ++ u16 n ++ u32 k.toNat
          | .revoked c n k => u8 4 ++ u8 c.number ++ u16 n ++ u32 k.toNat))) ∧
    (∀ (c : KeyClass) (n : Nat) (d : List Byte) (k : CheckValue) (offset : Nat) (r : Region),
      s.creds.slots[i] = .bound c n d k → offset < 65536 → s.modes.mode ≠ .factory → s.regions.active? = some r →
      (p = .set → offset < n → (c = .content ∧ r.allowsContent = true) ∨ (c = .platform ∧ r.allowsPlatform = true) →
        exec (.fetchKey p (frameOf level tag (u8 i ++ u16 offset))) s =
          .next (s.answered p tag .ok (u8 i ++ u16 offset ++ (d.drop offset).take (min 64 (n - offset))))) ∧
      (p = .set → c = .service →
        exec (.fetchKey p (frameOf level tag (u8 i ++ u16 offset))) s = .next (s.answered p tag .slotState [])) ∧
      (p = .set → (c = .content ∧ r.allowsContent = false) ∨ (c = .platform ∧ r.allowsPlatform = false) →
        exec (.fetchKey p (frameOf level tag (u8 i ++ u16 offset))) s = .next (s.answered p tag .notAllowed [])) ∧
      (p = .line →
        exec (.fetchKey p (frameOf level tag (u8 i ++ u16 offset))) s = .next (s.answered p tag .notAllowed []))) ∧
    (s.effectiveLevel p level ≤ 1 → s.store.write = .idle → s.modes.shipping = false →
      (s.creds.slots[i] = .empty →
        exec (.eraseSlot p (frameOf level tag (u8 i))) s = .next (s.answered p tag .ok (u8 i))) ∧
      ((∃ c n d k, s.creds.slots[i] = .loaded c n d k) ∨ s.creds.slots[i].isRevoked = true →
        exec (.eraseSlot p (frameOf level tag (u8 i))) s =
          .next (({ s with
              creds := { s.creds with slots := s.creds.slots.set i .empty }
              store := { s.store with dirty := true } } : State).answered p tag .ok (u8 i))) ∧
      ((∃ c n d k, s.creds.slots[i] = .bound c n d k) ∨ s.creds.slots[i].isLoading = true →
        exec (.eraseSlot p (frameOf level tag (u8 i))) s = .next (s.answered p tag .slotState [])))) ∧
  (∀ (s : State) (p : PortId) (level tag : Byte) (slot offset : Nat), s.admits p level 2 → slot < 256 →
    offset < 65536 →
    let answer := fun status => exec (.fetchKey p (frameOf level tag (u8 slot ++ u16 offset))) s =
      .next (s.answered p tag status [])
    (p = .line → answer .notAllowed) ∧
    (p = .set → 15 < slot → answer .badValue) ∧
    (p = .set → slot ≤ 15 → s.modes.mode = .factory → answer .mode) ∧
    (p = .set → s.modes.mode ≠ .factory → ∀ i : Fin 16, i.val = slot →
      ((∀ c n d k, c ≠ .service → s.creds.slots[i] ≠ .bound c n d k) → answer .slotState) ∧
      (∀ c n d k, c ≠ .service → s.creds.slots[i] = .bound c n d k →
        (s.regions.active? = none → answer .notAllowed) ∧
        (∀ r, s.regions.active? = some r →
          ¬((c = .content ∧ r.allowsContent = true) ∨ (c = .platform ∧ r.allowsPlatform = true)) →
          answer .notAllowed) ∧
        (∀ r, s.regions.active? = some r →
          (c = .content ∧ r.allowsContent = true) ∨ (c = .platform ∧ r.allowsPlatform = true) → n ≤ offset →
          answer .badValue))) ∧
    (15 < slot →
      exec (.readSlot p (frameOf level tag (u8 slot))) s = .next (s.answered p tag .badValue []) ∧
      (s.effectiveLevel p level ≤ 1 →
        exec (.eraseSlot p (frameOf level tag (u8 slot))) s = .next (s.answered p tag .badValue []))) ∧
    (slot ≤ 15 → s.effectiveLevel p level ≤ 1 → s.store.write ≠ .idle ∨ s.modes.shipping = true →
      exec (.eraseSlot p (frameOf level tag (u8 slot))) s = .next (s.answered p tag .busy [])))

/-- Revoke Slot and the revocation write (R139, R140): the slot REVOKED at once, its data gone; without a COMPLETE image the
reply at once; with one the image entry marked REVOKED and the port left waiting, until the write ends OK with the entry's
kept values, or with a write fault and the image INCOMPLETE. An entry that was saved EMPTY, of a key loaded since, holds
until then a class other than SERVICE, a length and a check value that are free values, which `Slot.markRevoked` draws and
`freeCount`, the model's own field, counts (log 16). That an entry which was saved other than EMPTY keeps what the image
holds until the write ends is the model's choice (log 42). The refusals, in their order (R139): nothing changes. Without a
revocation write its completion does not occur (log 2). -/
def Obligations.RevocationsReachTheImage : Prop :=
  (∀ (s : State) (p : PortId) (level tag : Byte) (i : Fin 16) (class_ : KeyClass) (n : Nat) (d : List Byte)
    (k : CheckValue),
    (s.admits p level 2 → s.store.write = .idle → s.modes.shipping = false → class_ ≠ .service →
      (s.creds.slots[i] = .loaded class_ n d k ∨ s.creds.slots[i] = .bound class_ n d k) →
      (s.store.image.contents? = none →
        exec (.revokeSlot p (frameOf level tag (u8 i))) s =
          .next (({ s with
              creds := { s.creds with slots := s.creds.slots.set i (.revoked class_ n k) }
              store := { s.store with dirty := true } } : State).answered p tag .ok (u8 i ++ u32 k.toNat))) ∧
      (∀ x c' n' k', s.store.image = .complete x →
        (∃ d', x.slots[i] = .loaded c' n' d' k' ∨ x.slots[i] = .bound c' n' d' k') ∨ x.slots[i] = .revoked c' n' k' →
        exec (.revokeSlot p (frameOf level tag (u8 i))) s =
          .next (({ s with
              creds := { s.creds with slots := s.creds.slots.set i (.revoked class_ n k) }
              store := { s.store with
                dirty := true
                image := .complete { x with slots := x.slots.set i (.revoked c' n' k') }
                write := .revoking p i }
              book := { s.book with freeCount := s.book.freeCount + 1 } } : State).withPort p
            { s.port p with phase := .pending, slot := none, tag := tag, driven := [] })) ∧
      (∀ x, s.store.image = .complete x → x.slots[i] = .empty →
        exec (.revokeSlot p (frameOf level tag (u8 i))) s =
          .next (({ s with
              creds := { s.creds with slots := s.creds.slots.set i (.revoked class_ n k) }
              store := { s.store with
                dirty := true
                image := .complete { x with slots := x.slots.set i (Slot.empty.markRevoked s.book.freeCount) }
                write := .revoking p i }
              book := { s.book with freeCount := s.book.freeCount + 1 } } : State).withPort p
            { s.port p with phase := .pending, slot := none, tag := tag, driven := [] }))) ∧
    (s.store.write = .revoking p i → s.creds.slots[i] = .revoked class_ n k →
      (∀ x, s.store.image = .complete x →
        exec (.revocationWriteCompletion .ok) s =
          .next (({ s with
              store := { s.store with
                image := .complete { x with slots := x.slots.set i (.revoked class_ n k) }, write := .idle } } :
                  State).withPort p
            { s.port p with
              phase := .ready,
              slot := some { status := .ok, tag := (s.port p).tag, payload := u8 i ++ u32 k.toNat } })) ∧
      exec (.revocationWriteCompletion .fault) s =
        .next (({ s with store := { s.store with image := .incomplete, write := .idle } } : State).withPort p
          { s.port p with
            phase := .ready, slot := some { status := .writeFault, tag := (s.port p).tag, payload := u8 i } }))) ∧
  (∀ (s : State) (p : PortId) (level tag : Byte) (slot : Nat), s.admits p level 2 → slot < 256 →
    let free := s.store.write = .idle ∧ s.modes.shipping = false
    let answer := fun status => exec (.revokeSlot p (frameOf level tag (u8 slot))) s =
      .next (s.answered p tag status [])
    (15 < slot → answer .badValue) ∧
    (slot ≤ 15 → ¬free → answer .busy) ∧
    (free → ∀ i : Fin 16, i.val = slot →
      (s.creds.slots[i].class? = some .service → answer .notAllowed) ∧
      (s.creds.slots[i].class? ≠ some .service →
        (∀ c n d k, s.creds.slots[i] ≠ .loaded c n d k ∧ s.creds.slots[i] ≠ .bound c n d k) → answer .slotState))) ∧
  (∀ (s : State) (result : WriteResult), (∀ p i, s.store.write ≠ .revoking p i) →
    exec (.revocationWriteCompletion result) s = .next s) ∧
  (∀ draw : Nat, ∃ c n k, Slot.empty.markRevoked draw = .revoked c n k ∧ c ≠ .service ∧ lengthSound c n)

/-! ## The image, Ship and Reopen -/

/-- A save (R157, R158, R160): its beginning, with the image INCOMPLETE and the contents taken; its completion OK or with a
write fault, SAVE attention in both. -/
def Obligations.SavesBeginAndComplete : Prop :=
  ∀ s : State,
    (∀ (p : PortId) (level tag : Byte), s.admits p level 1 → s.modes.shipping = false →
      (s.store.write = .idle → s.regions.selection = none →
        ∃ x, holdsRecordsOf x s ∧
          exec (.saveImage p (frameOf level tag [])) s =
            .next (({ s with store := { s.store with image := .incomplete, write := .saving x } } : State).answered p tag
              .ok (u32 (match s.grid.descriptor with
                | none => 0
                | some d => d.columns * d.rows * d.levels.length)))) ∧
      (s.store.write ≠ .idle ∨ s.regions.selection ≠ none →
        exec (.saveImage p (frameOf level tag [])) s = .next (s.answered p tag .busy []))) ∧
    (∀ x, s.store.write = .saving x → s.modes.shipping = false →
      exec (.saveCompletion .ok) s =
        .next { s with
          store := { s.store with image := .complete x, write := .idle, lastResult := .ok, dirty := false }
          attention := s.attention.raise .save } ∧
      exec (.saveCompletion .fault) s =
        .next { s with
          store := { s.store with image := .incomplete, write := .idle, lastResult := .writeFault, dirty := true }
          attention := s.attention.raise .save })

/-- Ship (R146, R147, R148, R150, R151): BAD_VALUE for another force option, then BUSY while another Ship runs, then
NOT_READY with the code of the first condition that fails; when it is taken, the LOADED slots BOUND and remembered, hold,
line bypass and requested source settled, the save begun and the port waiting; its end OK sets the fuse and FIELD mode; its
end with a fault returns the remembered slots to LOADED. -/
def Obligations.ShipBindsSavesAndEnds : Prop :=
  ∀ s : State,
    (∀ (p : PortId) (level tag force : Byte), s.admits p level 1 →
      (2 ≤ force.toNat → exec (.ship p (frameOf level tag [force])) s = .next (s.answered p tag .badValue [])) ∧
      (force.toNat ≤ 1 → s.modes.shipping = true →
        exec (.ship p (frameOf level tag [force])) s = .next (s.answered p tag .busy []))) ∧
    (∀ (p : PortId) (level tag : Byte) (force : Bool), s.admits p level 1 → s.modes.shipping = false →
      let conditions : List Prop :=
        [s.store.write = .idle, ∀ i : Fin 16, s.creds.slots[i].isLoading = false, s.regions.active? ≠ none,
          s.regions.selection = none, s.grid.descriptor ≠ none, s.queue.entries = [], s.conv.readings = [],
          s.modes.mode = .factory → ∃ (i : Fin 16) (n : Nat) (d : List Byte) (k : CheckValue),
            s.creds.slots[i] = .loaded .service n d k,
          s.grid.allConverged = true ∨ force = true]
      (∀ n : Fin 9, ¬ conditions[n] → (∀ m : Fin 9, m < n → conditions[m]) →
        exec (.ship p (frameOf level tag [if force then 1 else 0])) s =
          .next (s.answered p tag .notReady (u8 (n + 1)))) ∧
      ((∀ n : Fin 9, conditions[n]) →
        ∃ t x, exec (.ship p (frameOf level tag [if force then 1 else 0])) s = .next t ∧ holdsRecordsOf x t ∧
          t.creds.loading = s.creds.loading ∧
          (∀ i : Fin 16, t.creds.slots[i] =
            match s.creds.slots[i] with
            | .loaded c n d k => .bound c n d k
            | other => other) ∧
          t = ({ s with
            creds := t.creds
            modes := { s.modes with
              shipping := true
              boundByShip := (List.finRange 16).filter (fun i => s.creds.slots[i].isLoaded) }
            queue := { s.queue with hold := .released }
            engine := { s.engine with lineBypass := false }
            generator := { s.generator with requested := .external }
            store := { s.store with
              image := .incomplete, write := .saving x,
              dirty := s.store.dirty || (List.finRange 16).any (fun i => s.creds.slots[i].isLoaded) } } : State).withPort
            p { s.port p with phase := .pending, slot := none, tag := tag, driven := [] })) ∧
    (∀ x, s.store.write = .saving x → s.modes.shipping = true →
      exec (.saveCompletion .ok) s =
        .next { s with
          store := { s.store with image := .complete x, write := .idle, lastResult := .ok, dirty := false }
          attention := s.attention.raise .save
          modes := { s.modes with mode := .field, fuse := true, shipping := false, boundByShip := [] }
          linePort := { s.linePort with
            phase := .ready,
            slot := some { status := .ok, tag := s.linePort.tag, payload := u8 2 ++ u8 s.modes.boundByShip.length } } } ∧
      ∃ t, exec (.saveCompletion .fault) s = .next t ∧
        t.creds.loading = s.creds.loading ∧
        (∀ i : Fin 16, t.creds.slots[i] =
          match s.creds.slots[i] with
          | .bound c n d k => if i ∈ s.modes.boundByShip then .loaded c n d k else .bound c n d k
          | other => other) ∧
        t = { s with
          creds := t.creds
          store := { s.store with image := .incomplete, write := .idle, lastResult := .writeFault, dirty := true }
          attention := s.attention.raise .save
          modes := { s.modes with shipping := false, boundByShip := [] }
          linePort := { s.linePort with
            phase := .ready, slot := some { status := .writeFault, tag := s.linePort.tag, payload := [] } } })

/-- Reopen on the Line Port of a part in FIELD mode (R153, R154): SERVICE mode on a match, DENIED with the risen count and
REOPEN_FAIL attention on a mismatch, LOCKED_OUT at three failures whatever the token, NO_CREDENTIAL without a BOUND
SERVICE slot, BAD_LENGTH for another length, NOT_ALLOWED on the Set Port. -/
def Obligations.ReopenComparesTheToken : Prop :=
  ∀ (s : State) (p : PortId) (level tag : Byte) (token : List Byte), s.admits p level 2 → token.length ≤ 256 →
    let request := Instr.reopen p (frameOf level tag token)
    (token.length ≠ 32 → exec request s = .next (s.answered p tag .badLength [])) ∧
    (token.length = 32 → p = .set → exec request s = .next (s.answered p tag .notAllowed [])) ∧
    (token.length = 32 → p = .line → s.modes.mode ≠ .field → exec request s = .next (s.answered p tag .mode [])) ∧
    (token.length = 32 → p = .line → s.modes.mode = .field →
      (∀ (i : Fin 16) (n : Nat) (d : List Byte) (k : CheckValue), s.creds.slots[i] ≠ .bound .service n d k) →
      exec request s = .next (s.answered p tag .noCredential [])) ∧
    (token.length = 32 → p = .line → s.modes.mode = .field →
      ∀ (i : Fin 16) (n : Nat) (d : List Byte) (k : CheckValue), s.creds.slots[i] = .bound .service n d k →
      (∀ j : Fin 16, j ≠ i → s.creds.slots[j].class? ≠ some .service) →
      (3 ≤ s.modes.failures → exec request s = .next (s.answered p tag .lockedOut [])) ∧
      (s.modes.failures < 3 → token = d →
        exec request s =
          .next (({ s with modes := { s.modes with mode := .service, failures := 0 } } : State).answered p tag .ok
            (u8 1))) ∧
      (s.modes.failures < 3 → token ≠ d →
        exec request s =
          .next (({ s with
              modes := { s.modes with failures := s.modes.failures + 1 }
              attention := s.attention.raise .reopenFail } : State).answered p tag .denied
            (u8 (s.modes.failures + 1)))))

/-- The start-up load (R164, R21, R124, R142): a COMPLETE image loaded whole, with hits 0 and limit sets empty; a BLANK or an
INCOMPLETE one not at all, the latter with STORE attention; the part READY. -/
def Obligations.StartUpLoadFollowsTheImage : Prop :=
  ∀ s : State, s.pins.supply = true → s.store.startUp = .loading →
    (s.store.image = .blank →
      exec .startUpLoadCompletion s = .next { s with store := { s.store with startUp := .ready } }) ∧
    (s.store.image = .incomplete →
      exec .startUpLoadCompletion s = .next { s with
        store := { s.store with startUp := .ready }
        attention := s.attention.raise .store }) ∧
    (∀ x, s.store.image = .complete x → ∃ t, exec .startUpLoadCompletion s = .next t ∧
      t = { s with
        store := { s.store with startUp := .ready }
        grid := t.grid
        regions := { profiles := x.profiles, selection := none }
        creds := t.creds } ∧
      t.creds.loading = none ∧
      (∀ i : Fin 16, t.creds.slots[i] = if x.slots[i].isLoading then .empty else x.slots[i]) ∧
      (x.grid = none →
        t.grid = { descriptor := none, records := [], counts := [], writeSkip := 0, allConverged := false }) ∧
      (∀ d records, x.grid = some (d, records) →
        t.grid.descriptor = some d ∧ t.grid.writeSkip = 0 ∧ t.grid.counts = countsOf d t.grid.records ∧
        t.grid.allConverged = t.grid.judge ∧
        t.grid.records = records.map (fun r =>
          { trim := r.trim, state := r.state, hits := ⟨0, 0, 0⟩, limit := ⟨false, false, false⟩, applied := none })))

/-! ## The output video -/

/-- The bilinear step (R30): the interpolated quotient with its rounding, the result between the least and the greatest of the
four trims, and exactly the knot's trim at a knot; the trims are those of the records, whatever their state. -/
def Obligations.BilinearTrimLiesAmongItsKnots : Prop :=
  ∀ (d : Descriptor) (trim : Nat → Nat → Int) (x y : Nat), 1 ≤ d.exponent →
    let S : Nat := 2 ^ d.exponent
    let t00 := trim (x / S) (y / S)
    let t10 := trim (x / S + 1) (y / S)
    let t01 := trim (x / S) (y / S + 1)
    let t11 := trim (x / S + 1) (y / S + 1)
    let fx : Int := (x % S : Nat)
    let fy : Int := (y % S : Nat)
    let a := t00 * (S - fx) + t10 * fx
    let b := t01 * (S - fx) + t11 * fx
    bilinear d trim x y = (a * (S - fy) + b * fy + (S * S / 2 : Nat)) / (S * S : Nat) ∧
    min (min t00 t10) (min t01 t11) ≤ bilinear d trim x y ∧
    bilinear d trim x y ≤ max (max t00 t10) (max t01 t11) ∧
    (trimInRange t00 → trimInRange t10 → trimInRange t01 → trimInRange t11 → trimInRange (bilinear d trim x y)) ∧
    (x % S = 0 → y % S = 0 → bilinear d trim x y = t00) ∧
    (∀ (g : GridStore) (ch : Channel) (column row plane : Nat) (r : KnotRecord),
      g.records[recordPlace d plane row column]? = some r → g.trimAt d ch column row plane = r.trim.get ch)

/-- The level step (R31): the single trim of a channel is the level step over the planes' bilinear results; the trim a code
takes goes by where it falls among strictly increasing plane levels; it depends on no plane that its case does not name,
and between two levels it lies between their planes' trims. -/
def Obligations.PlanesCombineByTheInputCode : Prop :=
  ∀ (levels : List Nat) (t : Nat → Int) (v : Nat), levels ≠ [] → levels.Pairwise (· < ·) →
    let L := fun p => levels.getD p 0
    let last := levels.length - 1
    (levels.length = 1 → levelTrim t v 0 levels = t 0) ∧
    (v ≤ L 0 → levelTrim t v 0 levels = t 0) ∧
    (L last ≤ v → levelTrim t v 0 levels = t last) ∧
    (∀ p, p + 1 < levels.length → L p < v → v < L (p + 1) →
      levelTrim t v 0 levels = t p + roundDiv ((t (p + 1) - t p) * ((v : Int) - L p)) ((L (p + 1) : Int) - L p) ∧
      min (t p) (t (p + 1)) ≤ levelTrim t v 0 levels ∧ levelTrim t v 0 levels ≤ max (t p) (t (p + 1))) ∧
    (∀ p, 0 < p → p < last → v = L p → levelTrim t v 0 levels = t p) ∧
    ((∀ p, p < levels.length → trimInRange (t p)) → trimInRange (levelTrim t v 0 levels)) ∧
    (∀ (g : GridStore) (d : Descriptor) (ch : Channel) (x y : Nat), d.levels = levels →
      (∀ p, t p = bilinear d (fun column row => g.trimAt d ch column row p) x y) →
      g.pixelTrim d ch x y v = levelTrim t v 0 levels)

/-- The output codes (R27, R32, R34, R35): the corrected code, the uncorrected, black and STARTING ones; never above the
ceiling latched for the frame, 1023 in STARTING; a code of 0 stays 0; correction moves a code by at most 256. What the
generator draws (R93), and what leaves at a pixel by the frame in progress: nothing outside the size with which the frame
began (R113) or while it is vertical blanking (R114), 0 in the rest of a frame that a loss of input cut off (R26) and in a
black frame (R35), else the engine's code for the input code or for the drawn one, and 0 for a generated frame under
STARTING (R27). That the rest of a cut-off frame is 0 also where it was vertical blanking is the model's reading (log 24).
Without supply (log 19) and before the first frame start (log 22) nothing leaves. -/
def Obligations.OutputStaysUnderTheCeiling : Prop :=
  (∀ (s : State) (ch : Channel) (x y v : Nat), v ≤ 1023 →
    (s.engine.treatment = .starting → s.engineCode ch x y v = v) ∧
    (s.engine.treatment = .black → s.engineCode ch x y v = 0) ∧
    (s.engine.treatment = .uncorrected → s.engineCode ch x y v = min v s.engine.ceiling) ∧
    (∀ d, s.engine.treatment = .corrected → s.engine.latched = some d →
      let moved := (v : Int) + (2 * ((v : Int) * s.grid.pixelTrim d ch x y v) + 32768) / 65536
      (s.engineCode ch x y v : Int) = max 0 (min (s.engine.ceiling : Int) moved) ∧
      (trimInRange (s.grid.pixelTrim d ch x y v) → 0 ≤ moved ∧ v - 256 ≤ moved ∧ moved ≤ v + 256) ∧
      (v = 0 → s.engineCode ch x y v = 0)) ∧
    (∀ o, s.outputCode ch x y v = some o →
      (s.engine.treatment ≠ .starting → o ≤ s.engine.ceiling) ∧ (s.engine.treatment = .starting → o ≤ 1023))) ∧
  (∀ (width : Nat) (ch : Channel) (x : Nat),
    GeneratorPattern.stopped.code width ch x = 0 ∧
    (∀ q : Pattern,
      (q.channels.get ch = false → (GeneratorPattern.test q).code width ch x = 0) ∧
      (q.channels.get ch = true → q.kind = .flat → (GeneratorPattern.test q).code width ch x = q.level) ∧
      (q.channels.get ch = true → q.kind = .ramp →
        (GeneratorPattern.test q).code width ch x = q.level * x / (width - 1) ∧
        (x = 0 → (GeneratorPattern.test q).code width ch x = 0) ∧
        (2 ≤ width → x = width - 1 → (GeneratorPattern.test q).code width ch x = q.level)))) ∧
  (∀ (s : State) (ch : Channel) (x y v : Nat),
    (s.pins.supply = false → s.outputCode ch x y v = none) ∧
    (s.timing.frame = none → s.outputCode ch x y v = none) ∧
    (∀ f, s.timing.frame = some f → s.pins.supply = true →
      (f.width ≤ x ∨ f.height ≤ y → s.outputCode ch x y v = none) ∧
      (x < f.width → y < f.height →
        (f.cutOff = true → s.outputCode ch x y v = some 0) ∧
        (f.cutOff = false →
          (f.content = .blanking → s.outputCode ch x y v = none) ∧
          (f.content = .black → s.outputCode ch x y v = some 0) ∧
          (∀ i, f.content = .input i → s.outputCode ch x y v = some (s.engineCode ch x y v)) ∧
          (f.content = .generated → s.engine.treatment = .starting → s.outputCode ch x y v = some 0) ∧
          (f.content = .generated → s.engine.treatment ≠ .starting → ∀ g, s.generator.shown = some g →
            s.outputCode ch x y v = some (s.engineCode ch x y (g.code f.width ch x)))))))

/-! ## Invariants that every step keeps -/

/-- Neither queue passes its limit (R40, R73), and every timer stays below its bound (R50, R97, R106, R129). -/
def Obligations.QueuesAndTimersStayBounded : Prop :=
  ∀ s t : State, s.queuesBounded → s.timersSound → step s = .next t → t.queuesBounded ∧ t.timersSound

/-- Trims stay within −8192..+8191 and hits within 0..15, in the records, in what waits, in the image and in a save; the loop
parameters stay in their ranges (R4, R41, R66). -/
def Obligations.TrimsStayInRange : Prop :=
  ∀ s t : State, s.trimsSound → step s = .next t → t.trimsSound

/-- The collection keeps exactly the records of a sound descriptor, within the capacity (R3, R5), and every plane's counts
stay those of its records (R13). -/
def Obligations.CollectionAndCountsStaySound : Prop :=
  ∀ s t : State, s.gridSound → s.queuesWithinGrid → s.startSound → s.grid.countsSound → step s = .next t →
    t.gridSound ∧ t.queuesWithinGrid ∧ t.startSound ∧ t.grid.countsSound

/-- Mode and fuse stay in agreement, the failure count within 0..3, the shipping indicator with its save (R143, R148, R154);
and the fuse is set at one event only, the end of a Ship whose save ends OK, together with FIELD mode (R143). -/
def Obligations.ModesStaySoundAndShipSetsTheFuse : Prop :=
  (∀ s t : State, s.modesSound → step s = .next t → t.modesSound) ∧
  (∀ (c : Instr) (s t : State), exec c s = .next t →
    (s.modes.fuse = true → t.modes.fuse = true) ∧
    (s.modes.fuse = false → t.modes.fuse = true →
      c = .saveCompletion .ok ∧ s.modes.shipping = true ∧ t.modes.mode = .field))

/-- The Region Table and the image keep sound profiles: fields in range, no code twice, at most one ACTIVE, a selection that
names a STORED profile (R116, R119); and every latched ceiling lies within 512..1023 (R32). -/
def Obligations.RegionsStaySoundAndCeilingsInRange : Prop :=
  ∀ s t : State, s.regionsSound → s.ceilingsSound → step s = .next t → t.regionsSound ∧ t.ceilingsSound

/-- The Credential Table and the image keep sound slots: at most one LOADING, named by the loading context; at most one
SERVICE; lengths, data and check values that agree (R125, R126, R128, R129). -/
def Obligations.CredentialsStaySound : Prop :=
  ∀ s t : State, s.credentialsSound → s.startSound → step s = .next t → t.credentialsSound ∧ t.startSound

/-- A port holds a response exactly while it is READY, and every deferred reply keeps its PENDING port (R57, R139, R148,
R165). -/
def Obligations.DeferredRepliesKeepTheirPort : Prop :=
  ∀ s t : State, s.repliesSound → step s = .next t → t.repliesSound

/-- The state after reset meets every invariant above, and holds the reset values of the fields a reset settles. The part's
nonvolatile state, pins and link are the model's choice (log 18), and so are that no frame is in progress (log 22), the tag
of a port (log 28) and the values of the model's own fields (log 35). -/
def Obligations.ResetStateIsSound : Prop :=
  let s := State.reset
  s.queuesBounded ∧ s.timersSound ∧ s.trimsSound ∧ s.gridSound ∧ s.queuesWithinGrid ∧ s.startSound ∧
    s.grid.countsSound ∧ s.modesSound ∧ s.regionsSound ∧ s.ceilingsSound ∧ s.credentialsSound ∧ s.repliesSound ∧
    s = s.atResetValues .loading 0 (FrameTiming.atResetValues .internal none false)
end

