-- ==== Sys2Proof/Laws/State.lean ====
section
/-! SUPPORT. What each named update leaves of the state: one lemma for each field an update does not touch, and what it makes
of the fields it does. -/

namespace Sys2Proof.Machine

open Sys2Proof

section Updates

variable (s : State)

/-! ### `State.withPort` -/

@[simp] theorem State.withPort_pending (p : PortId) (q : Port) : (s.withPort p q).pending = s.pending := by cases p <;> rfl
@[simp] theorem State.withPort_pins (p : PortId) (q : Port) : (s.withPort p q).pins = s.pins := by cases p <;> rfl
@[simp] theorem State.withPort_grid (p : PortId) (q : Port) : (s.withPort p q).grid = s.grid := by cases p <;> rfl
@[simp] theorem State.withPort_queue (p : PortId) (q : Port) : (s.withPort p q).queue = s.queue := by cases p <;> rfl
@[simp] theorem State.withPort_engine (p : PortId) (q : Port) : (s.withPort p q).engine = s.engine := by cases p <;> rfl
@[simp] theorem State.withPort_conv (p : PortId) (q : Port) : (s.withPort p q).conv = s.conv := by cases p <;> rfl
@[simp] theorem State.withPort_generator (p : PortId) (q : Port) : (s.withPort p q).generator = s.generator := by cases p <;> rfl
@[simp] theorem State.withPort_detector (p : PortId) (q : Port) : (s.withPort p q).detector = s.detector := by cases p <;> rfl
@[simp] theorem State.withPort_timing (p : PortId) (q : Port) : (s.withPort p q).timing = s.timing := by cases p <;> rfl
@[simp] theorem State.withPort_regions (p : PortId) (q : Port) : (s.withPort p q).regions = s.regions := by cases p <;> rfl
@[simp] theorem State.withPort_creds (p : PortId) (q : Port) : (s.withPort p q).creds = s.creds := by cases p <;> rfl
@[simp] theorem State.withPort_modes (p : PortId) (q : Port) : (s.withPort p q).modes = s.modes := by cases p <;> rfl
@[simp] theorem State.withPort_store (p : PortId) (q : Port) : (s.withPort p q).store = s.store := by cases p <;> rfl
@[simp] theorem State.withPort_attention (p : PortId) (q : Port) : (s.withPort p q).attention = s.attention := by cases p <;> rfl
@[simp] theorem State.withPort_book (p : PortId) (q : Port) : (s.withPort p q).book = s.book := by cases p <;> rfl

/-! ### `State.answered` -/

@[simp] theorem State.answered_pending (p : PortId) (tag : Byte) (st : Status) (fs : List Byte) : (s.answered p tag st fs).pending = s.pending := by cases p <;> rfl
@[simp] theorem State.answered_pins (p : PortId) (tag : Byte) (st : Status) (fs : List Byte) : (s.answered p tag st fs).pins = s.pins := by cases p <;> rfl
@[simp] theorem State.answered_grid (p : PortId) (tag : Byte) (st : Status) (fs : List Byte) : (s.answered p tag st fs).grid = s.grid := by cases p <;> rfl
@[simp] theorem State.answered_queue (p : PortId) (tag : Byte) (st : Status) (fs : List Byte) : (s.answered p tag st fs).queue = s.queue := by cases p <;> rfl
@[simp] theorem State.answered_engine (p : PortId) (tag : Byte) (st : Status) (fs : List Byte) : (s.answered p tag st fs).engine = s.engine := by cases p <;> rfl
@[simp] theorem State.answered_conv (p : PortId) (tag : Byte) (st : Status) (fs : List Byte) : (s.answered p tag st fs).conv = s.conv := by cases p <;> rfl
@[simp] theorem State.answered_generator (p : PortId) (tag : Byte) (st : Status) (fs : List Byte) : (s.answered p tag st fs).generator = s.generator := by cases p <;> rfl
@[simp] theorem State.answered_detector (p : PortId) (tag : Byte) (st : Status) (fs : List Byte) : (s.answered p tag st fs).detector = s.detector := by cases p <;> rfl
@[simp] theorem State.answered_timing (p : PortId) (tag : Byte) (st : Status) (fs : List Byte) : (s.answered p tag st fs).timing = s.timing := by cases p <;> rfl
@[simp] theorem State.answered_regions (p : PortId) (tag : Byte) (st : Status) (fs : List Byte) : (s.answered p tag st fs).regions = s.regions := by cases p <;> rfl
@[simp] theorem State.answered_creds (p : PortId) (tag : Byte) (st : Status) (fs : List Byte) : (s.answered p tag st fs).creds = s.creds := by cases p <;> rfl
@[simp] theorem State.answered_modes (p : PortId) (tag : Byte) (st : Status) (fs : List Byte) : (s.answered p tag st fs).modes = s.modes := by cases p <;> rfl
@[simp] theorem State.answered_store (p : PortId) (tag : Byte) (st : Status) (fs : List Byte) : (s.answered p tag st fs).store = s.store := by cases p <;> rfl
@[simp] theorem State.answered_attention (p : PortId) (tag : Byte) (st : Status) (fs : List Byte) : (s.answered p tag st fs).attention = s.attention := by cases p <;> rfl
@[simp] theorem State.answered_book (p : PortId) (tag : Byte) (st : Status) (fs : List Byte) : (s.answered p tag st fs).book = s.book := by cases p <;> rfl

/-! ### `State.awaiting` -/

@[simp] theorem State.awaiting_pending (p : PortId) (tag : Byte) : (s.awaiting p tag).pending = s.pending := by cases p <;> rfl
@[simp] theorem State.awaiting_pins (p : PortId) (tag : Byte) : (s.awaiting p tag).pins = s.pins := by cases p <;> rfl
@[simp] theorem State.awaiting_grid (p : PortId) (tag : Byte) : (s.awaiting p tag).grid = s.grid := by cases p <;> rfl
@[simp] theorem State.awaiting_queue (p : PortId) (tag : Byte) : (s.awaiting p tag).queue = s.queue := by cases p <;> rfl
@[simp] theorem State.awaiting_engine (p : PortId) (tag : Byte) : (s.awaiting p tag).engine = s.engine := by cases p <;> rfl
@[simp] theorem State.awaiting_conv (p : PortId) (tag : Byte) : (s.awaiting p tag).conv = s.conv := by cases p <;> rfl
@[simp] theorem State.awaiting_generator (p : PortId) (tag : Byte) : (s.awaiting p tag).generator = s.generator := by cases p <;> rfl
@[simp] theorem State.awaiting_detector (p : PortId) (tag : Byte) : (s.awaiting p tag).detector = s.detector := by cases p <;> rfl
@[simp] theorem State.awaiting_timing (p : PortId) (tag : Byte) : (s.awaiting p tag).timing = s.timing := by cases p <;> rfl
@[simp] theorem State.awaiting_regions (p : PortId) (tag : Byte) : (s.awaiting p tag).regions = s.regions := by cases p <;> rfl
@[simp] theorem State.awaiting_creds (p : PortId) (tag : Byte) : (s.awaiting p tag).creds = s.creds := by cases p <;> rfl
@[simp] theorem State.awaiting_modes (p : PortId) (tag : Byte) : (s.awaiting p tag).modes = s.modes := by cases p <;> rfl
@[simp] theorem State.awaiting_store (p : PortId) (tag : Byte) : (s.awaiting p tag).store = s.store := by cases p <;> rfl
@[simp] theorem State.awaiting_attention (p : PortId) (tag : Byte) : (s.awaiting p tag).attention = s.attention := by cases p <;> rfl
@[simp] theorem State.awaiting_book (p : PortId) (tag : Byte) : (s.awaiting p tag).book = s.book := by cases p <;> rfl

/-! ### `State.loseFrame` -/

@[simp] theorem State.loseFrame_pending (p : PortId) : (s.loseFrame p).pending = s.pending := by cases p <;> rfl
@[simp] theorem State.loseFrame_pins (p : PortId) : (s.loseFrame p).pins = s.pins := by cases p <;> rfl
@[simp] theorem State.loseFrame_grid (p : PortId) : (s.loseFrame p).grid = s.grid := by cases p <;> rfl
@[simp] theorem State.loseFrame_queue (p : PortId) : (s.loseFrame p).queue = s.queue := by cases p <;> rfl
@[simp] theorem State.loseFrame_engine (p : PortId) : (s.loseFrame p).engine = s.engine := by cases p <;> rfl
@[simp] theorem State.loseFrame_conv (p : PortId) : (s.loseFrame p).conv = s.conv := by cases p <;> rfl
@[simp] theorem State.loseFrame_generator (p : PortId) : (s.loseFrame p).generator = s.generator := by cases p <;> rfl
@[simp] theorem State.loseFrame_detector (p : PortId) : (s.loseFrame p).detector = s.detector := by cases p <;> rfl
@[simp] theorem State.loseFrame_timing (p : PortId) : (s.loseFrame p).timing = s.timing := by cases p <;> rfl
@[simp] theorem State.loseFrame_regions (p : PortId) : (s.loseFrame p).regions = s.regions := by cases p <;> rfl
@[simp] theorem State.loseFrame_creds (p : PortId) : (s.loseFrame p).creds = s.creds := by cases p <;> rfl
@[simp] theorem State.loseFrame_modes (p : PortId) : (s.loseFrame p).modes = s.modes := by cases p <;> rfl
@[simp] theorem State.loseFrame_store (p : PortId) : (s.loseFrame p).store = s.store := by cases p <;> rfl
@[simp] theorem State.loseFrame_attention (p : PortId) : (s.loseFrame p).attention = s.attention := by cases p <;> rfl
@[simp] theorem State.loseFrame_book (p : PortId) : (s.loseFrame p).book = s.book := by cases p <;> rfl

/-! ### `State.ignoreTransfer` -/

@[simp] theorem State.ignoreTransfer_pending (p : PortId) : (s.ignoreTransfer p).pending = s.pending := by
  unfold State.ignoreTransfer; split <;> simp
@[simp] theorem State.ignoreTransfer_pins (p : PortId) : (s.ignoreTransfer p).pins = s.pins := by
  unfold State.ignoreTransfer; split <;> simp
@[simp] theorem State.ignoreTransfer_grid (p : PortId) : (s.ignoreTransfer p).grid = s.grid := by
  unfold State.ignoreTransfer; split <;> simp
@[simp] theorem State.ignoreTransfer_queue (p : PortId) : (s.ignoreTransfer p).queue = s.queue := by
  unfold State.ignoreTransfer; split <;> simp
@[simp] theorem State.ignoreTransfer_engine (p : PortId) : (s.ignoreTransfer p).engine = s.engine := by
  unfold State.ignoreTransfer; split <;> simp
@[simp] theorem State.ignoreTransfer_conv (p : PortId) : (s.ignoreTransfer p).conv = s.conv := by
  unfold State.ignoreTransfer; split <;> simp
@[simp] theorem State.ignoreTransfer_generator (p : PortId) : (s.ignoreTransfer p).generator = s.generator := by
  unfold State.ignoreTransfer; split <;> simp
@[simp] theorem State.ignoreTransfer_detector (p : PortId) : (s.ignoreTransfer p).detector = s.detector := by
  unfold State.ignoreTransfer; split <;> simp
@[simp] theorem State.ignoreTransfer_timing (p : PortId) : (s.ignoreTransfer p).timing = s.timing := by
  unfold State.ignoreTransfer; split <;> simp
@[simp] theorem State.ignoreTransfer_regions (p : PortId) : (s.ignoreTransfer p).regions = s.regions := by
  unfold State.ignoreTransfer; split <;> simp
@[simp] theorem State.ignoreTransfer_creds (p : PortId) : (s.ignoreTransfer p).creds = s.creds := by
  unfold State.ignoreTransfer; split <;> simp
@[simp] theorem State.ignoreTransfer_modes (p : PortId) : (s.ignoreTransfer p).modes = s.modes := by
  unfold State.ignoreTransfer; split <;> simp
@[simp] theorem State.ignoreTransfer_store (p : PortId) : (s.ignoreTransfer p).store = s.store := by
  unfold State.ignoreTransfer; split <;> simp
@[simp] theorem State.ignoreTransfer_attention (p : PortId) : (s.ignoreTransfer p).attention = s.attention := by
  unfold State.ignoreTransfer; split <;> simp
@[simp] theorem State.ignoreTransfer_book (p : PortId) : (s.ignoreTransfer p).book = s.book := by
  unfold State.ignoreTransfer; split <;> simp

/-! ### `State.placeReply` -/

@[simp] theorem State.placeReply_pending (p : PortId) (st : Status) (fs : List Byte) : (s.placeReply p st fs).pending = s.pending := by cases p <;> rfl
@[simp] theorem State.placeReply_pins (p : PortId) (st : Status) (fs : List Byte) : (s.placeReply p st fs).pins = s.pins := by cases p <;> rfl
@[simp] theorem State.placeReply_grid (p : PortId) (st : Status) (fs : List Byte) : (s.placeReply p st fs).grid = s.grid := by cases p <;> rfl
@[simp] theorem State.placeReply_queue (p : PortId) (st : Status) (fs : List Byte) : (s.placeReply p st fs).queue = s.queue := by cases p <;> rfl
@[simp] theorem State.placeReply_engine (p : PortId) (st : Status) (fs : List Byte) : (s.placeReply p st fs).engine = s.engine := by cases p <;> rfl
@[simp] theorem State.placeReply_conv (p : PortId) (st : Status) (fs : List Byte) : (s.placeReply p st fs).conv = s.conv := by cases p <;> rfl
@[simp] theorem State.placeReply_generator (p : PortId) (st : Status) (fs : List Byte) : (s.placeReply p st fs).generator = s.generator := by cases p <;> rfl
@[simp] theorem State.placeReply_detector (p : PortId) (st : Status) (fs : List Byte) : (s.placeReply p st fs).detector = s.detector := by cases p <;> rfl
@[simp] theorem State.placeReply_timing (p : PortId) (st : Status) (fs : List Byte) : (s.placeReply p st fs).timing = s.timing := by cases p <;> rfl
@[simp] theorem State.placeReply_regions (p : PortId) (st : Status) (fs : List Byte) : (s.placeReply p st fs).regions = s.regions := by cases p <;> rfl
@[simp] theorem State.placeReply_creds (p : PortId) (st : Status) (fs : List Byte) : (s.placeReply p st fs).creds = s.creds := by cases p <;> rfl
@[simp] theorem State.placeReply_modes (p : PortId) (st : Status) (fs : List Byte) : (s.placeReply p st fs).modes = s.modes := by cases p <;> rfl
@[simp] theorem State.placeReply_store (p : PortId) (st : Status) (fs : List Byte) : (s.placeReply p st fs).store = s.store := by cases p <;> rfl
@[simp] theorem State.placeReply_attention (p : PortId) (st : Status) (fs : List Byte) : (s.placeReply p st fs).attention = s.attention := by cases p <;> rfl
@[simp] theorem State.placeReply_book (p : PortId) (st : Status) (fs : List Byte) : (s.placeReply p st fs).book = s.book := by cases p <;> rfl

/-! ### `State.raiseIf` -/

@[simp] theorem State.raiseIf_pending (c : Bool) (f : Flag) : (s.raiseIf c f).pending = s.pending := by cases c <;> rfl
@[simp] theorem State.raiseIf_pins (c : Bool) (f : Flag) : (s.raiseIf c f).pins = s.pins := by cases c <;> rfl
@[simp] theorem State.raiseIf_grid (c : Bool) (f : Flag) : (s.raiseIf c f).grid = s.grid := by cases c <;> rfl
@[simp] theorem State.raiseIf_queue (c : Bool) (f : Flag) : (s.raiseIf c f).queue = s.queue := by cases c <;> rfl
@[simp] theorem State.raiseIf_engine (c : Bool) (f : Flag) : (s.raiseIf c f).engine = s.engine := by cases c <;> rfl
@[simp] theorem State.raiseIf_conv (c : Bool) (f : Flag) : (s.raiseIf c f).conv = s.conv := by cases c <;> rfl
@[simp] theorem State.raiseIf_generator (c : Bool) (f : Flag) : (s.raiseIf c f).generator = s.generator := by cases c <;> rfl
@[simp] theorem State.raiseIf_detector (c : Bool) (f : Flag) : (s.raiseIf c f).detector = s.detector := by cases c <;> rfl
@[simp] theorem State.raiseIf_timing (c : Bool) (f : Flag) : (s.raiseIf c f).timing = s.timing := by cases c <;> rfl
@[simp] theorem State.raiseIf_regions (c : Bool) (f : Flag) : (s.raiseIf c f).regions = s.regions := by cases c <;> rfl
@[simp] theorem State.raiseIf_creds (c : Bool) (f : Flag) : (s.raiseIf c f).creds = s.creds := by cases c <;> rfl
@[simp] theorem State.raiseIf_modes (c : Bool) (f : Flag) : (s.raiseIf c f).modes = s.modes := by cases c <;> rfl
@[simp] theorem State.raiseIf_store (c : Bool) (f : Flag) : (s.raiseIf c f).store = s.store := by cases c <;> rfl
@[simp] theorem State.raiseIf_linePort (c : Bool) (f : Flag) : (s.raiseIf c f).linePort = s.linePort := by cases c <;> rfl
@[simp] theorem State.raiseIf_setPort (c : Bool) (f : Flag) : (s.raiseIf c f).setPort = s.setPort := by cases c <;> rfl
@[simp] theorem State.raiseIf_book (c : Bool) (f : Flag) : (s.raiseIf c f).book = s.book := by cases c <;> rfl

/-! ### `State.setDirty` -/

@[simp] theorem State.setDirty_pending : (s.setDirty).pending = s.pending := rfl
@[simp] theorem State.setDirty_pins : (s.setDirty).pins = s.pins := rfl
@[simp] theorem State.setDirty_grid : (s.setDirty).grid = s.grid := rfl
@[simp] theorem State.setDirty_queue : (s.setDirty).queue = s.queue := rfl
@[simp] theorem State.setDirty_engine : (s.setDirty).engine = s.engine := rfl
@[simp] theorem State.setDirty_conv : (s.setDirty).conv = s.conv := rfl
@[simp] theorem State.setDirty_generator : (s.setDirty).generator = s.generator := rfl
@[simp] theorem State.setDirty_detector : (s.setDirty).detector = s.detector := rfl
@[simp] theorem State.setDirty_timing : (s.setDirty).timing = s.timing := rfl
@[simp] theorem State.setDirty_regions : (s.setDirty).regions = s.regions := rfl
@[simp] theorem State.setDirty_creds : (s.setDirty).creds = s.creds := rfl
@[simp] theorem State.setDirty_modes : (s.setDirty).modes = s.modes := rfl
@[simp] theorem State.setDirty_linePort : (s.setDirty).linePort = s.linePort := rfl
@[simp] theorem State.setDirty_setPort : (s.setDirty).setPort = s.setPort := rfl
@[simp] theorem State.setDirty_attention : (s.setDirty).attention = s.attention := rfl
@[simp] theorem State.setDirty_book : (s.setDirty).book = s.book := rfl

/-! ### `State.judgeConverged` -/

@[simp] theorem State.judgeConverged_pending : (s.judgeConverged).pending = s.pending := by simp [State.judgeConverged]
@[simp] theorem State.judgeConverged_pins : (s.judgeConverged).pins = s.pins := by simp [State.judgeConverged]
@[simp] theorem State.judgeConverged_queue : (s.judgeConverged).queue = s.queue := by simp [State.judgeConverged]
@[simp] theorem State.judgeConverged_engine : (s.judgeConverged).engine = s.engine := by simp [State.judgeConverged]
@[simp] theorem State.judgeConverged_conv : (s.judgeConverged).conv = s.conv := by simp [State.judgeConverged]
@[simp] theorem State.judgeConverged_generator : (s.judgeConverged).generator = s.generator := by simp [State.judgeConverged]
@[simp] theorem State.judgeConverged_detector : (s.judgeConverged).detector = s.detector := by simp [State.judgeConverged]
@[simp] theorem State.judgeConverged_timing : (s.judgeConverged).timing = s.timing := by simp [State.judgeConverged]
@[simp] theorem State.judgeConverged_regions : (s.judgeConverged).regions = s.regions := by simp [State.judgeConverged]
@[simp] theorem State.judgeConverged_creds : (s.judgeConverged).creds = s.creds := by simp [State.judgeConverged]
@[simp] theorem State.judgeConverged_modes : (s.judgeConverged).modes = s.modes := by simp [State.judgeConverged]
@[simp] theorem State.judgeConverged_store : (s.judgeConverged).store = s.store := by simp [State.judgeConverged]
@[simp] theorem State.judgeConverged_linePort : (s.judgeConverged).linePort = s.linePort := by simp [State.judgeConverged]
@[simp] theorem State.judgeConverged_setPort : (s.judgeConverged).setPort = s.setPort := by simp [State.judgeConverged]
@[simp] theorem State.judgeConverged_book : (s.judgeConverged).book = s.book := by simp [State.judgeConverged]

/-! ### `State.judgeInput` -/

@[simp] theorem State.judgeInput_pending (c : InputCondition) : (s.judgeInput c).pending = s.pending := by simp [State.judgeInput]
@[simp] theorem State.judgeInput_pins (c : InputCondition) : (s.judgeInput c).pins = s.pins := by simp [State.judgeInput]
@[simp] theorem State.judgeInput_grid (c : InputCondition) : (s.judgeInput c).grid = s.grid := by simp [State.judgeInput]
@[simp] theorem State.judgeInput_queue (c : InputCondition) : (s.judgeInput c).queue = s.queue := by simp [State.judgeInput]
@[simp] theorem State.judgeInput_engine (c : InputCondition) : (s.judgeInput c).engine = s.engine := by simp [State.judgeInput]
@[simp] theorem State.judgeInput_conv (c : InputCondition) : (s.judgeInput c).conv = s.conv := by simp [State.judgeInput]
@[simp] theorem State.judgeInput_generator (c : InputCondition) : (s.judgeInput c).generator = s.generator := by simp [State.judgeInput]
@[simp] theorem State.judgeInput_detector (c : InputCondition) : (s.judgeInput c).detector = s.detector := by simp [State.judgeInput]
@[simp] theorem State.judgeInput_regions (c : InputCondition) : (s.judgeInput c).regions = s.regions := by simp [State.judgeInput]
@[simp] theorem State.judgeInput_creds (c : InputCondition) : (s.judgeInput c).creds = s.creds := by simp [State.judgeInput]
@[simp] theorem State.judgeInput_modes (c : InputCondition) : (s.judgeInput c).modes = s.modes := by simp [State.judgeInput]
@[simp] theorem State.judgeInput_store (c : InputCondition) : (s.judgeInput c).store = s.store := by simp [State.judgeInput]
@[simp] theorem State.judgeInput_linePort (c : InputCondition) : (s.judgeInput c).linePort = s.linePort := by simp [State.judgeInput]
@[simp] theorem State.judgeInput_setPort (c : InputCondition) : (s.judgeInput c).setPort = s.setPort := by simp [State.judgeInput]
@[simp] theorem State.judgeInput_book (c : InputCondition) : (s.judgeInput c).book = s.book := by simp [State.judgeInput]

/-! ### `State.place` -/

@[simp] theorem State.place_pending (es : List Entry) : (s.place es).pending = s.pending := rfl
@[simp] theorem State.place_pins (es : List Entry) : (s.place es).pins = s.pins := rfl
@[simp] theorem State.place_grid (es : List Entry) : (s.place es).grid = s.grid := rfl
@[simp] theorem State.place_engine (es : List Entry) : (s.place es).engine = s.engine := rfl
@[simp] theorem State.place_conv (es : List Entry) : (s.place es).conv = s.conv := rfl
@[simp] theorem State.place_generator (es : List Entry) : (s.place es).generator = s.generator := rfl
@[simp] theorem State.place_detector (es : List Entry) : (s.place es).detector = s.detector := rfl
@[simp] theorem State.place_timing (es : List Entry) : (s.place es).timing = s.timing := rfl
@[simp] theorem State.place_regions (es : List Entry) : (s.place es).regions = s.regions := rfl
@[simp] theorem State.place_creds (es : List Entry) : (s.place es).creds = s.creds := rfl
@[simp] theorem State.place_modes (es : List Entry) : (s.place es).modes = s.modes := rfl
@[simp] theorem State.place_store (es : List Entry) : (s.place es).store = s.store := rfl
@[simp] theorem State.place_linePort (es : List Entry) : (s.place es).linePort = s.linePort := rfl
@[simp] theorem State.place_setPort (es : List Entry) : (s.place es).setPort = s.setPort := rfl
@[simp] theorem State.place_attention (es : List Entry) : (s.place es).attention = s.attention := rfl
@[simp] theorem State.place_book (es : List Entry) : (s.place es).book = s.book := rfl

/-! ### `State.withHold` -/

@[simp] theorem State.withHold_pending (h : HoldState) : (s.withHold h).pending = s.pending := rfl
@[simp] theorem State.withHold_pins (h : HoldState) : (s.withHold h).pins = s.pins := rfl
@[simp] theorem State.withHold_grid (h : HoldState) : (s.withHold h).grid = s.grid := rfl
@[simp] theorem State.withHold_engine (h : HoldState) : (s.withHold h).engine = s.engine := rfl
@[simp] theorem State.withHold_conv (h : HoldState) : (s.withHold h).conv = s.conv := rfl
@[simp] theorem State.withHold_generator (h : HoldState) : (s.withHold h).generator = s.generator := rfl
@[simp] theorem State.withHold_detector (h : HoldState) : (s.withHold h).detector = s.detector := rfl
@[simp] theorem State.withHold_timing (h : HoldState) : (s.withHold h).timing = s.timing := rfl
@[simp] theorem State.withHold_regions (h : HoldState) : (s.withHold h).regions = s.regions := rfl
@[simp] theorem State.withHold_creds (h : HoldState) : (s.withHold h).creds = s.creds := rfl
@[simp] theorem State.withHold_modes (h : HoldState) : (s.withHold h).modes = s.modes := rfl
@[simp] theorem State.withHold_store (h : HoldState) : (s.withHold h).store = s.store := rfl
@[simp] theorem State.withHold_linePort (h : HoldState) : (s.withHold h).linePort = s.linePort := rfl
@[simp] theorem State.withHold_setPort (h : HoldState) : (s.withHold h).setPort = s.setPort := rfl
@[simp] theorem State.withHold_attention (h : HoldState) : (s.withHold h).attention = s.attention := rfl
@[simp] theorem State.withHold_book (h : HoldState) : (s.withHold h).book = s.book := rfl

/-! ### `State.withGuard` -/

@[simp] theorem State.withGuard_pending (g : Guard) : (s.withGuard g).pending = s.pending := rfl
@[simp] theorem State.withGuard_pins (g : Guard) : (s.withGuard g).pins = s.pins := rfl
@[simp] theorem State.withGuard_grid (g : Guard) : (s.withGuard g).grid = s.grid := rfl
@[simp] theorem State.withGuard_engine (g : Guard) : (s.withGuard g).engine = s.engine := rfl
@[simp] theorem State.withGuard_conv (g : Guard) : (s.withGuard g).conv = s.conv := rfl
@[simp] theorem State.withGuard_generator (g : Guard) : (s.withGuard g).generator = s.generator := rfl
@[simp] theorem State.withGuard_detector (g : Guard) : (s.withGuard g).detector = s.detector := rfl
@[simp] theorem State.withGuard_timing (g : Guard) : (s.withGuard g).timing = s.timing := rfl
@[simp] theorem State.withGuard_regions (g : Guard) : (s.withGuard g).regions = s.regions := rfl
@[simp] theorem State.withGuard_creds (g : Guard) : (s.withGuard g).creds = s.creds := rfl
@[simp] theorem State.withGuard_modes (g : Guard) : (s.withGuard g).modes = s.modes := rfl
@[simp] theorem State.withGuard_store (g : Guard) : (s.withGuard g).store = s.store := rfl
@[simp] theorem State.withGuard_linePort (g : Guard) : (s.withGuard g).linePort = s.linePort := rfl
@[simp] theorem State.withGuard_setPort (g : Guard) : (s.withGuard g).setPort = s.setPort := rfl
@[simp] theorem State.withGuard_attention (g : Guard) : (s.withGuard g).attention = s.attention := rfl
@[simp] theorem State.withGuard_book (g : Guard) : (s.withGuard g).book = s.book := rfl

/-! ### `State.withRegions` -/

@[simp] theorem State.withRegions_pending (t : RegionTable) : (s.withRegions t).pending = s.pending := rfl
@[simp] theorem State.withRegions_pins (t : RegionTable) : (s.withRegions t).pins = s.pins := rfl
@[simp] theorem State.withRegions_grid (t : RegionTable) : (s.withRegions t).grid = s.grid := rfl
@[simp] theorem State.withRegions_queue (t : RegionTable) : (s.withRegions t).queue = s.queue := rfl
@[simp] theorem State.withRegions_engine (t : RegionTable) : (s.withRegions t).engine = s.engine := rfl
@[simp] theorem State.withRegions_conv (t : RegionTable) : (s.withRegions t).conv = s.conv := rfl
@[simp] theorem State.withRegions_generator (t : RegionTable) : (s.withRegions t).generator = s.generator := rfl
@[simp] theorem State.withRegions_detector (t : RegionTable) : (s.withRegions t).detector = s.detector := rfl
@[simp] theorem State.withRegions_timing (t : RegionTable) : (s.withRegions t).timing = s.timing := rfl
@[simp] theorem State.withRegions_creds (t : RegionTable) : (s.withRegions t).creds = s.creds := rfl
@[simp] theorem State.withRegions_modes (t : RegionTable) : (s.withRegions t).modes = s.modes := rfl
@[simp] theorem State.withRegions_linePort (t : RegionTable) : (s.withRegions t).linePort = s.linePort := rfl
@[simp] theorem State.withRegions_setPort (t : RegionTable) : (s.withRegions t).setPort = s.setPort := rfl
@[simp] theorem State.withRegions_attention (t : RegionTable) : (s.withRegions t).attention = s.attention := rfl
@[simp] theorem State.withRegions_book (t : RegionTable) : (s.withRegions t).book = s.book := rfl

/-! ### `State.withDetection` -/

@[simp] theorem State.withDetection_pending (d : Detection) : (s.withDetection d).pending = s.pending := rfl
@[simp] theorem State.withDetection_pins (d : Detection) : (s.withDetection d).pins = s.pins := rfl
@[simp] theorem State.withDetection_grid (d : Detection) : (s.withDetection d).grid = s.grid := rfl
@[simp] theorem State.withDetection_queue (d : Detection) : (s.withDetection d).queue = s.queue := rfl
@[simp] theorem State.withDetection_engine (d : Detection) : (s.withDetection d).engine = s.engine := rfl
@[simp] theorem State.withDetection_conv (d : Detection) : (s.withDetection d).conv = s.conv := rfl
@[simp] theorem State.withDetection_generator (d : Detection) : (s.withDetection d).generator = s.generator := rfl
@[simp] theorem State.withDetection_timing (d : Detection) : (s.withDetection d).timing = s.timing := rfl
@[simp] theorem State.withDetection_regions (d : Detection) : (s.withDetection d).regions = s.regions := rfl
@[simp] theorem State.withDetection_creds (d : Detection) : (s.withDetection d).creds = s.creds := rfl
@[simp] theorem State.withDetection_modes (d : Detection) : (s.withDetection d).modes = s.modes := rfl
@[simp] theorem State.withDetection_store (d : Detection) : (s.withDetection d).store = s.store := rfl
@[simp] theorem State.withDetection_linePort (d : Detection) : (s.withDetection d).linePort = s.linePort := rfl
@[simp] theorem State.withDetection_setPort (d : Detection) : (s.withDetection d).setPort = s.setPort := rfl
@[simp] theorem State.withDetection_attention (d : Detection) : (s.withDetection d).attention = s.attention := rfl
@[simp] theorem State.withDetection_book (d : Detection) : (s.withDetection d).book = s.book := rfl

/-! ### `State.withJudgement` -/

@[simp] theorem State.withJudgement_pending (j : Judgement) : (s.withJudgement j).pending = s.pending := rfl
@[simp] theorem State.withJudgement_pins (j : Judgement) : (s.withJudgement j).pins = s.pins := rfl
@[simp] theorem State.withJudgement_grid (j : Judgement) : (s.withJudgement j).grid = s.grid := rfl
@[simp] theorem State.withJudgement_queue (j : Judgement) : (s.withJudgement j).queue = s.queue := rfl
@[simp] theorem State.withJudgement_engine (j : Judgement) : (s.withJudgement j).engine = s.engine := rfl
@[simp] theorem State.withJudgement_conv (j : Judgement) : (s.withJudgement j).conv = s.conv := rfl
@[simp] theorem State.withJudgement_generator (j : Judgement) : (s.withJudgement j).generator = s.generator := rfl
@[simp] theorem State.withJudgement_detector (j : Judgement) : (s.withJudgement j).detector = s.detector := rfl
@[simp] theorem State.withJudgement_timing (j : Judgement) : (s.withJudgement j).timing = s.timing := rfl
@[simp] theorem State.withJudgement_regions (j : Judgement) : (s.withJudgement j).regions = s.regions := rfl
@[simp] theorem State.withJudgement_creds (j : Judgement) : (s.withJudgement j).creds = s.creds := rfl
@[simp] theorem State.withJudgement_modes (j : Judgement) : (s.withJudgement j).modes = s.modes := rfl
@[simp] theorem State.withJudgement_store (j : Judgement) : (s.withJudgement j).store = s.store := rfl
@[simp] theorem State.withJudgement_linePort (j : Judgement) : (s.withJudgement j).linePort = s.linePort := rfl
@[simp] theorem State.withJudgement_setPort (j : Judgement) : (s.withJudgement j).setPort = s.setPort := rfl
@[simp] theorem State.withJudgement_attention (j : Judgement) : (s.withJudgement j).attention = s.attention := rfl

/-! ### `State.beginSave` -/

@[simp] theorem State.beginSave_pending : (s.beginSave).pending = s.pending := rfl
@[simp] theorem State.beginSave_pins : (s.beginSave).pins = s.pins := rfl
@[simp] theorem State.beginSave_grid : (s.beginSave).grid = s.grid := rfl
@[simp] theorem State.beginSave_queue : (s.beginSave).queue = s.queue := rfl
@[simp] theorem State.beginSave_engine : (s.beginSave).engine = s.engine := rfl
@[simp] theorem State.beginSave_conv : (s.beginSave).conv = s.conv := rfl
@[simp] theorem State.beginSave_generator : (s.beginSave).generator = s.generator := rfl
@[simp] theorem State.beginSave_detector : (s.beginSave).detector = s.detector := rfl
@[simp] theorem State.beginSave_timing : (s.beginSave).timing = s.timing := rfl
@[simp] theorem State.beginSave_regions : (s.beginSave).regions = s.regions := rfl
@[simp] theorem State.beginSave_creds : (s.beginSave).creds = s.creds := rfl
@[simp] theorem State.beginSave_modes : (s.beginSave).modes = s.modes := rfl
@[simp] theorem State.beginSave_linePort : (s.beginSave).linePort = s.linePort := rfl
@[simp] theorem State.beginSave_setPort : (s.beginSave).setPort = s.setPort := rfl
@[simp] theorem State.beginSave_attention : (s.beginSave).attention = s.attention := rfl
@[simp] theorem State.beginSave_book : (s.beginSave).book = s.book := rfl

/-! ### `State.intake` -/

@[simp] theorem State.intake_pending (b : Batch) : (s.intake b).pending = s.pending := by simp [State.intake]
@[simp] theorem State.intake_pins (b : Batch) : (s.intake b).pins = s.pins := by simp [State.intake]
@[simp] theorem State.intake_grid (b : Batch) : (s.intake b).grid = s.grid := by simp [State.intake]
@[simp] theorem State.intake_queue (b : Batch) : (s.intake b).queue = s.queue := by simp [State.intake]
@[simp] theorem State.intake_engine (b : Batch) : (s.intake b).engine = s.engine := by simp [State.intake]
@[simp] theorem State.intake_generator (b : Batch) : (s.intake b).generator = s.generator := by simp [State.intake]
@[simp] theorem State.intake_detector (b : Batch) : (s.intake b).detector = s.detector := by simp [State.intake]
@[simp] theorem State.intake_timing (b : Batch) : (s.intake b).timing = s.timing := by simp [State.intake]
@[simp] theorem State.intake_regions (b : Batch) : (s.intake b).regions = s.regions := by simp [State.intake]
@[simp] theorem State.intake_creds (b : Batch) : (s.intake b).creds = s.creds := by simp [State.intake]
@[simp] theorem State.intake_modes (b : Batch) : (s.intake b).modes = s.modes := by simp [State.intake]
@[simp] theorem State.intake_store (b : Batch) : (s.intake b).store = s.store := by simp [State.intake]
@[simp] theorem State.intake_linePort (b : Batch) : (s.intake b).linePort = s.linePort := by simp [State.intake]
@[simp] theorem State.intake_setPort (b : Batch) : (s.intake b).setPort = s.setPort := by simp [State.intake]
@[simp] theorem State.intake_book (b : Batch) : (s.intake b).book = s.book := by simp [State.intake]

/-! ### `State.defineGrid` -/

@[simp] theorem State.defineGrid_pending (d : Descriptor) : (s.defineGrid d).pending = s.pending := by simp [State.defineGrid]
@[simp] theorem State.defineGrid_pins (d : Descriptor) : (s.defineGrid d).pins = s.pins := by simp [State.defineGrid]
@[simp] theorem State.defineGrid_engine (d : Descriptor) : (s.defineGrid d).engine = s.engine := by simp [State.defineGrid]
@[simp] theorem State.defineGrid_generator (d : Descriptor) : (s.defineGrid d).generator = s.generator := by simp [State.defineGrid]
@[simp] theorem State.defineGrid_detector (d : Descriptor) : (s.defineGrid d).detector = s.detector := by simp [State.defineGrid]
@[simp] theorem State.defineGrid_timing (d : Descriptor) : (s.defineGrid d).timing = s.timing := by simp [State.defineGrid]
@[simp] theorem State.defineGrid_regions (d : Descriptor) : (s.defineGrid d).regions = s.regions := by simp [State.defineGrid]
@[simp] theorem State.defineGrid_creds (d : Descriptor) : (s.defineGrid d).creds = s.creds := by simp [State.defineGrid]
@[simp] theorem State.defineGrid_modes (d : Descriptor) : (s.defineGrid d).modes = s.modes := by simp [State.defineGrid]
@[simp] theorem State.defineGrid_linePort (d : Descriptor) : (s.defineGrid d).linePort = s.linePort := by simp [State.defineGrid]
@[simp] theorem State.defineGrid_setPort (d : Descriptor) : (s.defineGrid d).setPort = s.setPort := by simp [State.defineGrid]
@[simp] theorem State.defineGrid_book (d : Descriptor) : (s.defineGrid d).book = s.book := by simp [State.defineGrid]

/-! ### `State.reportEnd` -/

@[simp] theorem State.reportEnd_pending : (s.reportEnd).pending = s.pending := by simp [State.reportEnd]
@[simp] theorem State.reportEnd_pins : (s.reportEnd).pins = s.pins := by simp [State.reportEnd]
@[simp] theorem State.reportEnd_grid : (s.reportEnd).grid = s.grid := by simp [State.reportEnd]
@[simp] theorem State.reportEnd_engine : (s.reportEnd).engine = s.engine := by simp [State.reportEnd]
@[simp] theorem State.reportEnd_conv : (s.reportEnd).conv = s.conv := by simp [State.reportEnd]
@[simp] theorem State.reportEnd_generator : (s.reportEnd).generator = s.generator := by simp [State.reportEnd]
@[simp] theorem State.reportEnd_detector : (s.reportEnd).detector = s.detector := by simp [State.reportEnd]
@[simp] theorem State.reportEnd_timing : (s.reportEnd).timing = s.timing := by simp [State.reportEnd]
@[simp] theorem State.reportEnd_regions : (s.reportEnd).regions = s.regions := by simp [State.reportEnd]
@[simp] theorem State.reportEnd_creds : (s.reportEnd).creds = s.creds := by simp [State.reportEnd]
@[simp] theorem State.reportEnd_modes : (s.reportEnd).modes = s.modes := by simp [State.reportEnd]
@[simp] theorem State.reportEnd_store : (s.reportEnd).store = s.store := by simp [State.reportEnd]
@[simp] theorem State.reportEnd_linePort : (s.reportEnd).linePort = s.linePort := by simp [State.reportEnd]
@[simp] theorem State.reportEnd_setPort : (s.reportEnd).setPort = s.setPort := by simp [State.reportEnd]
@[simp] theorem State.reportEnd_book : (s.reportEnd).book = s.book := by simp [State.reportEnd]

/-! ### `State.reportStart` -/

@[simp] theorem State.reportStart_pending : (s.reportStart).pending = s.pending := by simp [State.reportStart, State.guardReport]
@[simp] theorem State.reportStart_pins : (s.reportStart).pins = s.pins := by simp [State.reportStart, State.guardReport]
@[simp] theorem State.reportStart_grid : (s.reportStart).grid = s.grid := by simp [State.reportStart, State.guardReport]
@[simp] theorem State.reportStart_engine : (s.reportStart).engine = s.engine := by simp [State.reportStart, State.guardReport]
@[simp] theorem State.reportStart_conv : (s.reportStart).conv = s.conv := by simp [State.reportStart, State.guardReport]
@[simp] theorem State.reportStart_generator : (s.reportStart).generator = s.generator := by simp [State.reportStart, State.guardReport]
@[simp] theorem State.reportStart_detector : (s.reportStart).detector = s.detector := by simp [State.reportStart, State.guardReport]
@[simp] theorem State.reportStart_timing : (s.reportStart).timing = s.timing := by simp [State.reportStart, State.guardReport]
@[simp] theorem State.reportStart_regions : (s.reportStart).regions = s.regions := by simp [State.reportStart, State.guardReport]
@[simp] theorem State.reportStart_creds : (s.reportStart).creds = s.creds := by simp [State.reportStart, State.guardReport]
@[simp] theorem State.reportStart_modes : (s.reportStart).modes = s.modes := by simp [State.reportStart, State.guardReport]
@[simp] theorem State.reportStart_store : (s.reportStart).store = s.store := by simp [State.reportStart, State.guardReport]
@[simp] theorem State.reportStart_linePort : (s.reportStart).linePort = s.linePort := by simp [State.reportStart, State.guardReport]
@[simp] theorem State.reportStart_setPort : (s.reportStart).setPort = s.setPort := by simp [State.reportStart, State.guardReport]
@[simp] theorem State.reportStart_book : (s.reportStart).book = s.book := by simp [State.reportStart, State.guardReport]

/-! ### `State.abandonLoad` -/

@[simp] theorem State.abandonLoad_pending (l : LoadingContext) : (s.abandonLoad l).pending = s.pending := by simp [State.abandonLoad]
@[simp] theorem State.abandonLoad_pins (l : LoadingContext) : (s.abandonLoad l).pins = s.pins := by simp [State.abandonLoad]
@[simp] theorem State.abandonLoad_grid (l : LoadingContext) : (s.abandonLoad l).grid = s.grid := by simp [State.abandonLoad]
@[simp] theorem State.abandonLoad_queue (l : LoadingContext) : (s.abandonLoad l).queue = s.queue := by simp [State.abandonLoad]
@[simp] theorem State.abandonLoad_engine (l : LoadingContext) : (s.abandonLoad l).engine = s.engine := by simp [State.abandonLoad]
@[simp] theorem State.abandonLoad_conv (l : LoadingContext) : (s.abandonLoad l).conv = s.conv := by simp [State.abandonLoad]
@[simp] theorem State.abandonLoad_generator (l : LoadingContext) : (s.abandonLoad l).generator = s.generator := by simp [State.abandonLoad]
@[simp] theorem State.abandonLoad_detector (l : LoadingContext) : (s.abandonLoad l).detector = s.detector := by simp [State.abandonLoad]
@[simp] theorem State.abandonLoad_timing (l : LoadingContext) : (s.abandonLoad l).timing = s.timing := by simp [State.abandonLoad]
@[simp] theorem State.abandonLoad_regions (l : LoadingContext) : (s.abandonLoad l).regions = s.regions := by simp [State.abandonLoad]
@[simp] theorem State.abandonLoad_modes (l : LoadingContext) : (s.abandonLoad l).modes = s.modes := by simp [State.abandonLoad]
@[simp] theorem State.abandonLoad_store (l : LoadingContext) : (s.abandonLoad l).store = s.store := by simp [State.abandonLoad]
@[simp] theorem State.abandonLoad_linePort (l : LoadingContext) : (s.abandonLoad l).linePort = s.linePort := by simp [State.abandonLoad]
@[simp] theorem State.abandonLoad_setPort (l : LoadingContext) : (s.abandonLoad l).setPort = s.setPort := by simp [State.abandonLoad]
@[simp] theorem State.abandonLoad_book (l : LoadingContext) : (s.abandonLoad l).book = s.book := by simp [State.abandonLoad]

/-! ### The fields the updates make -/

@[simp] theorem State.port_line : s.port .line = s.linePort := rfl
@[simp] theorem State.port_set : s.port .set = s.setPort := rfl

@[simp] theorem State.port_withPort (p : PortId) (q : Port) : (s.withPort p q).port p = q := by cases p <;> rfl

/-- The two ports keep their own state (10, introduction). -/
theorem State.port_withPort_ne (p p' : PortId) (q : Port) (h : p' ≠ p) : (s.withPort p q).port p' = s.port p' := by
  cases p <;> cases p' <;> first | rfl | exact absurd rfl h

/-- A reply placed: the port is READY and holds the response, its ignored mark kept (R165). -/
@[simp] theorem State.port_answered (p : PortId) (tag : Byte) (st : Status) (fs : List Byte) :
    (s.answered p tag st fs).port p =
      { s.port p with phase := .ready, slot := some { status := st, tag := tag, payload := fs }, tag := tag,
                      driven := [] } := by
  cases p <;> rfl

theorem State.port_answered_ne (p p' : PortId) (tag : Byte) (st : Status) (fs : List Byte) (h : p' ≠ p) :
    (s.answered p tag st fs).port p' = s.port p' := s.port_withPort_ne p p' _ h

@[simp] theorem State.port_awaiting (p : PortId) (tag : Byte) :
    (s.awaiting p tag).port p = { s.port p with phase := .pending, slot := none, tag := tag, driven := [] } := by
  cases p <;> rfl

theorem State.port_awaiting_ne (p p' : PortId) (tag : Byte) (h : p' ≠ p) : (s.awaiting p tag).port p' = s.port p' :=
  s.port_withPort_ne p p' _ h

@[simp] theorem State.port_loseFrame (p : PortId) :
    (s.loseFrame p).port p = { s.port p with ignored := true, driven := [] } := by cases p <;> rfl

theorem State.port_loseFrame_ne (p p' : PortId) (h : p' ≠ p) : (s.loseFrame p).port p' = s.port p' :=
  s.port_withPort_ne p p' _ h

/-- A deferred reply is placed with the tag its port remembers (R165, R168). -/
@[simp] theorem State.port_placeReply (p : PortId) (st : Status) (fs : List Byte) :
    (s.placeReply p st fs).port p =
      { s.port p with phase := .ready, slot := some { status := st, tag := (s.port p).tag, payload := fs } } := by
  cases p <;> rfl

theorem State.port_placeReply_ne (p p' : PortId) (st : Status) (fs : List Byte) (h : p' ≠ p) :
    (s.placeReply p st fs).port p' = s.port p' := s.port_withPort_ne p p' _ h

/-- An ignored transfer leaves port state, slot, mark and tag (R166, R168). -/
theorem State.port_ignoreTransfer (p : PortId) :
    (s.ignoreTransfer p).port p = if s.deaf then s.port p else { s.port p with driven := [] } := by
  unfold State.ignoreTransfer; split <;> simp

@[simp] theorem State.port_raiseIf (c : Bool) (f : Flag) (p : PortId) : (s.raiseIf c f).port p = s.port p := by
  cases p <;> simp [State.port]

/-- A raising sets the flag in both ports' sets when its condition holds (R172). -/
theorem State.raiseIf_attention (c : Bool) (f : Flag) :
    (s.raiseIf c f).attention = if c then s.attention.raise f else s.attention := by cases c <;> rfl

@[simp] theorem State.raiseIf_false (f : Flag) : s.raiseIf false f = s := rfl

@[simp] theorem State.setDirty_store : s.setDirty.store = { s.store with dirty := true } := rfl

@[simp] theorem State.place_queue (es : List Entry) :
    (s.place es).queue = { s.queue with entries := s.queue.entries ++ es } := rfl

@[simp] theorem State.withHold_queue (h : HoldState) : (s.withHold h).queue = { s.queue with hold := h } := rfl

@[simp] theorem State.withGuard_queue (g : Guard) : (s.withGuard g).queue = { s.queue with guard := g } := rfl

@[simp] theorem State.withRegions_regions (t : RegionTable) : (s.withRegions t).regions = t := rfl

@[simp] theorem State.withRegions_store (t : RegionTable) :
    (s.withRegions t).store = { s.store with dirty := true } := rfl

@[simp] theorem State.withDetection_detector (d : Detection) :
    (s.withDetection d).detector = { s.detector with state := d } := rfl

@[simp] theorem State.judgeConverged_grid :
    s.judgeConverged.grid = { s.grid with allConverged := s.grid.judge } := by simp [State.judgeConverged]

@[simp] theorem State.judgeInput_timing (c : InputCondition) :
    (s.judgeInput c).timing = { s.timing with condition := c } := by simp [State.judgeInput]

@[simp] theorem State.beginSave_store :
    s.beginSave.store = { s.store with image := .incomplete, write := .saving s.contents } := rfl

end Updates

end Sys2Proof.Machine
end

