-- ==== Sys2Proof/Laws/Frames.lean ====
section
/-! SUPPORT. What each part of a frame start leaves of the state, and what it makes of the fields it changes. -/

namespace Sys2Proof.Machine

open Sys2Proof

section FrameStart

variable (s : State)

/-! ### `State.takeSelection` -/

@[simp] theorem State.takeSelection_pending : s.takeSelection.pending = s.pending := by
  unfold State.takeSelection; split <;> simp
@[simp] theorem State.takeSelection_pins : s.takeSelection.pins = s.pins := by
  unfold State.takeSelection; split <;> simp
@[simp] theorem State.takeSelection_grid : s.takeSelection.grid = s.grid := by
  unfold State.takeSelection; split <;> simp
@[simp] theorem State.takeSelection_queue : s.takeSelection.queue = s.queue := by
  unfold State.takeSelection; split <;> simp
@[simp] theorem State.takeSelection_engine : s.takeSelection.engine = s.engine := by
  unfold State.takeSelection; split <;> simp
@[simp] theorem State.takeSelection_conv : s.takeSelection.conv = s.conv := by
  unfold State.takeSelection; split <;> simp
@[simp] theorem State.takeSelection_generator : s.takeSelection.generator = s.generator := by
  unfold State.takeSelection; split <;> simp
@[simp] theorem State.takeSelection_detector : s.takeSelection.detector = s.detector := by
  unfold State.takeSelection; split <;> simp
@[simp] theorem State.takeSelection_timing : s.takeSelection.timing = s.timing := by
  unfold State.takeSelection; split <;> simp
@[simp] theorem State.takeSelection_creds : s.takeSelection.creds = s.creds := by
  unfold State.takeSelection; split <;> simp
@[simp] theorem State.takeSelection_modes : s.takeSelection.modes = s.modes := by
  unfold State.takeSelection; split <;> simp
@[simp] theorem State.takeSelection_linePort : s.takeSelection.linePort = s.linePort := by
  unfold State.takeSelection; split <;> simp
@[simp] theorem State.takeSelection_setPort : s.takeSelection.setPort = s.setPort := by
  unfold State.takeSelection; split <;> simp
@[simp] theorem State.takeSelection_book : s.takeSelection.book = s.book := by
  unfold State.takeSelection; split <;> simp

/-! ### `State.addGap` -/

@[simp] theorem State.addGap_pending (step : Nat) : (s.addGap step).pending = s.pending := by
  unfold State.addGap; split; · rfl
  · split <;> simp
@[simp] theorem State.addGap_pins (step : Nat) : (s.addGap step).pins = s.pins := by
  unfold State.addGap; split; · rfl
  · split <;> simp
@[simp] theorem State.addGap_grid (step : Nat) : (s.addGap step).grid = s.grid := by
  unfold State.addGap; split; · rfl
  · split <;> simp
@[simp] theorem State.addGap_queue (step : Nat) : (s.addGap step).queue = s.queue := by
  unfold State.addGap; split; · rfl
  · split <;> simp
@[simp] theorem State.addGap_engine (step : Nat) : (s.addGap step).engine = s.engine := by
  unfold State.addGap; split; · rfl
  · split <;> simp
@[simp] theorem State.addGap_conv (step : Nat) : (s.addGap step).conv = s.conv := by
  unfold State.addGap; split; · rfl
  · split <;> simp
@[simp] theorem State.addGap_generator (step : Nat) : (s.addGap step).generator = s.generator := by
  unfold State.addGap; split; · rfl
  · split <;> simp
@[simp] theorem State.addGap_detector (step : Nat) : (s.addGap step).detector = s.detector := by
  unfold State.addGap; split; · rfl
  · split <;> simp
@[simp] theorem State.addGap_timing (step : Nat) : (s.addGap step).timing = s.timing := by
  unfold State.addGap; split; · rfl
  · split <;> simp
@[simp] theorem State.addGap_regions (step : Nat) : (s.addGap step).regions = s.regions := by
  unfold State.addGap; split; · rfl
  · split <;> simp
@[simp] theorem State.addGap_modes (step : Nat) : (s.addGap step).modes = s.modes := by
  unfold State.addGap; split; · rfl
  · split <;> simp
@[simp] theorem State.addGap_store (step : Nat) : (s.addGap step).store = s.store := by
  unfold State.addGap; split; · rfl
  · split <;> simp
@[simp] theorem State.addGap_linePort (step : Nat) : (s.addGap step).linePort = s.linePort := by
  unfold State.addGap; split; · rfl
  · split <;> simp
@[simp] theorem State.addGap_setPort (step : Nat) : (s.addGap step).setPort = s.setPort := by
  unfold State.addGap; split; · rfl
  · split <;> simp
@[simp] theorem State.addGap_book (step : Nat) : (s.addGap step).book = s.book := by
  unfold State.addGap; split; · rfl
  · split <;> simp

/-! ### `State.addGuard` -/

@[simp] theorem State.addGuard_pending (step : Nat) : (s.addGuard step).pending = s.pending := by
  unfold State.addGuard; split; · rfl
  · split; · rfl
    · split <;> simp
@[simp] theorem State.addGuard_pins (step : Nat) : (s.addGuard step).pins = s.pins := by
  unfold State.addGuard; split; · rfl
  · split; · rfl
    · split <;> simp
@[simp] theorem State.addGuard_grid (step : Nat) : (s.addGuard step).grid = s.grid := by
  unfold State.addGuard; split; · rfl
  · split; · rfl
    · split <;> simp
@[simp] theorem State.addGuard_engine (step : Nat) : (s.addGuard step).engine = s.engine := by
  unfold State.addGuard; split; · rfl
  · split; · rfl
    · split <;> simp
@[simp] theorem State.addGuard_conv (step : Nat) : (s.addGuard step).conv = s.conv := by
  unfold State.addGuard; split; · rfl
  · split; · rfl
    · split <;> simp
@[simp] theorem State.addGuard_generator (step : Nat) : (s.addGuard step).generator = s.generator := by
  unfold State.addGuard; split; · rfl
  · split; · rfl
    · split <;> simp
@[simp] theorem State.addGuard_detector (step : Nat) : (s.addGuard step).detector = s.detector := by
  unfold State.addGuard; split; · rfl
  · split; · rfl
    · split <;> simp
@[simp] theorem State.addGuard_timing (step : Nat) : (s.addGuard step).timing = s.timing := by
  unfold State.addGuard; split; · rfl
  · split; · rfl
    · split <;> simp
@[simp] theorem State.addGuard_regions (step : Nat) : (s.addGuard step).regions = s.regions := by
  unfold State.addGuard; split; · rfl
  · split; · rfl
    · split <;> simp
@[simp] theorem State.addGuard_creds (step : Nat) : (s.addGuard step).creds = s.creds := by
  unfold State.addGuard; split; · rfl
  · split; · rfl
    · split <;> simp
@[simp] theorem State.addGuard_modes (step : Nat) : (s.addGuard step).modes = s.modes := by
  unfold State.addGuard; split; · rfl
  · split; · rfl
    · split <;> simp
@[simp] theorem State.addGuard_store (step : Nat) : (s.addGuard step).store = s.store := by
  unfold State.addGuard; split; · rfl
  · split; · rfl
    · split <;> simp
@[simp] theorem State.addGuard_linePort (step : Nat) : (s.addGuard step).linePort = s.linePort := by
  unfold State.addGuard; split; · rfl
  · split; · rfl
    · split <;> simp
@[simp] theorem State.addGuard_setPort (step : Nat) : (s.addGuard step).setPort = s.setPort := by
  unfold State.addGuard; split; · rfl
  · split; · rfl
    · split <;> simp
@[simp] theorem State.addGuard_attention (step : Nat) : (s.addGuard step).attention = s.attention := by
  unfold State.addGuard; split; · rfl
  · split; · rfl
    · split <;> simp
@[simp] theorem State.addGuard_book (step : Nat) : (s.addGuard step).book = s.book := by
  unfold State.addGuard; split; · rfl
  · split; · rfl
    · split <;> simp

/-! ### `State.applyQueue` -/

@[simp] theorem State.applyQueue_pending (frame : FrameNumber) : (s.applyQueue frame).pending = s.pending := by
  unfold State.applyQueue; dsimp only; split <;> split <;> simp
@[simp] theorem State.applyQueue_pins (frame : FrameNumber) : (s.applyQueue frame).pins = s.pins := by
  unfold State.applyQueue; dsimp only; split <;> split <;> simp
@[simp] theorem State.applyQueue_engine (frame : FrameNumber) : (s.applyQueue frame).engine = s.engine := by
  unfold State.applyQueue; dsimp only; split <;> split <;> simp
@[simp] theorem State.applyQueue_conv (frame : FrameNumber) : (s.applyQueue frame).conv = s.conv := by
  unfold State.applyQueue; dsimp only; split <;> split <;> simp
@[simp] theorem State.applyQueue_generator (frame : FrameNumber) : (s.applyQueue frame).generator = s.generator := by
  unfold State.applyQueue; dsimp only; split <;> split <;> simp
@[simp] theorem State.applyQueue_detector (frame : FrameNumber) : (s.applyQueue frame).detector = s.detector := by
  unfold State.applyQueue; dsimp only; split <;> split <;> simp
@[simp] theorem State.applyQueue_timing (frame : FrameNumber) : (s.applyQueue frame).timing = s.timing := by
  unfold State.applyQueue; dsimp only; split <;> split <;> simp
@[simp] theorem State.applyQueue_regions (frame : FrameNumber) : (s.applyQueue frame).regions = s.regions := by
  unfold State.applyQueue; dsimp only; split <;> split <;> simp
@[simp] theorem State.applyQueue_creds (frame : FrameNumber) : (s.applyQueue frame).creds = s.creds := by
  unfold State.applyQueue; dsimp only; split <;> split <;> simp
@[simp] theorem State.applyQueue_modes (frame : FrameNumber) : (s.applyQueue frame).modes = s.modes := by
  unfold State.applyQueue; dsimp only; split <;> split <;> simp
@[simp] theorem State.applyQueue_setPort (frame : FrameNumber) : (s.applyQueue frame).setPort = s.setPort := by
  unfold State.applyQueue; dsimp only; split <;> split <;>
    simp [State.placeReply, State.withPort, State.setDirty]
@[simp] theorem State.applyQueue_book (frame : FrameNumber) : (s.applyQueue frame).book = s.book := by
  unfold State.applyQueue; dsimp only; split <;> split <;> simp

/-! ### `State.decideApplication` -/

@[simp] theorem State.decideApplication_pending (frame : FrameNumber) : (s.decideApplication frame).pending = s.pending := by
  unfold State.decideApplication; split; · rfl
  · dsimp only; split <;> simp
@[simp] theorem State.decideApplication_pins (frame : FrameNumber) : (s.decideApplication frame).pins = s.pins := by
  unfold State.decideApplication; split; · rfl
  · dsimp only; split <;> simp
@[simp] theorem State.decideApplication_engine (frame : FrameNumber) : (s.decideApplication frame).engine = s.engine := by
  unfold State.decideApplication; split; · rfl
  · dsimp only; split <;> simp
@[simp] theorem State.decideApplication_conv (frame : FrameNumber) : (s.decideApplication frame).conv = s.conv := by
  unfold State.decideApplication; split; · rfl
  · dsimp only; split <;> simp
@[simp] theorem State.decideApplication_generator (frame : FrameNumber) : (s.decideApplication frame).generator = s.generator := by
  unfold State.decideApplication; split; · rfl
  · dsimp only; split <;> simp
@[simp] theorem State.decideApplication_detector (frame : FrameNumber) : (s.decideApplication frame).detector = s.detector := by
  unfold State.decideApplication; split; · rfl
  · dsimp only; split <;> simp
@[simp] theorem State.decideApplication_timing (frame : FrameNumber) : (s.decideApplication frame).timing = s.timing := by
  unfold State.decideApplication; split; · rfl
  · dsimp only; split <;> simp
@[simp] theorem State.decideApplication_regions (frame : FrameNumber) : (s.decideApplication frame).regions = s.regions := by
  unfold State.decideApplication; split; · rfl
  · dsimp only; split <;> simp
@[simp] theorem State.decideApplication_creds (frame : FrameNumber) : (s.decideApplication frame).creds = s.creds := by
  unfold State.decideApplication; split; · rfl
  · dsimp only; split <;> simp
@[simp] theorem State.decideApplication_modes (frame : FrameNumber) : (s.decideApplication frame).modes = s.modes := by
  unfold State.decideApplication; split; · rfl
  · dsimp only; split <;> simp
@[simp] theorem State.decideApplication_setPort (frame : FrameNumber) : (s.decideApplication frame).setPort = s.setPort := by
  unfold State.decideApplication; split; · rfl
  · dsimp only; split <;> simp
@[simp] theorem State.decideApplication_book (frame : FrameNumber) : (s.decideApplication frame).book = s.book := by
  unfold State.decideApplication; split; · rfl
  · dsimp only; split <;> simp

/-! ### `State.report` -/

@[simp] theorem State.report_pending (v : Verdict) : (s.report v).pending = s.pending := by
  unfold State.report; dsimp only; split <;> split <;> simp
@[simp] theorem State.report_pins (v : Verdict) : (s.report v).pins = s.pins := by
  unfold State.report; dsimp only; split <;> split <;> simp
@[simp] theorem State.report_grid (v : Verdict) : (s.report v).grid = s.grid := by
  unfold State.report; dsimp only; split <;> split <;> simp
@[simp] theorem State.report_engine (v : Verdict) : (s.report v).engine = s.engine := by
  unfold State.report; dsimp only; split <;> split <;> simp
@[simp] theorem State.report_conv (v : Verdict) : (s.report v).conv = s.conv := by
  unfold State.report; dsimp only; split <;> split <;> simp
@[simp] theorem State.report_generator (v : Verdict) : (s.report v).generator = s.generator := by
  unfold State.report; dsimp only; split <;> split <;> simp
@[simp] theorem State.report_detector (v : Verdict) : (s.report v).detector = s.detector := by
  unfold State.report; dsimp only; split <;> split <;> simp
@[simp] theorem State.report_timing (v : Verdict) : (s.report v).timing = s.timing := by
  unfold State.report; dsimp only; split <;> split <;> simp
@[simp] theorem State.report_regions (v : Verdict) : (s.report v).regions = s.regions := by
  unfold State.report; dsimp only; split <;> split <;> simp
@[simp] theorem State.report_creds (v : Verdict) : (s.report v).creds = s.creds := by
  unfold State.report; dsimp only; split <;> split <;> simp
@[simp] theorem State.report_modes (v : Verdict) : (s.report v).modes = s.modes := by
  unfold State.report; dsimp only; split <;> split <;> simp
@[simp] theorem State.report_store (v : Verdict) : (s.report v).store = s.store := by
  unfold State.report; dsimp only; split <;> split <;> simp
@[simp] theorem State.report_linePort (v : Verdict) : (s.report v).linePort = s.linePort := by
  unfold State.report; dsimp only; split <;> split <;> simp
@[simp] theorem State.report_setPort (v : Verdict) : (s.report v).setPort = s.setPort := by
  unfold State.report; dsimp only; split <;> split <;> simp
@[simp] theorem State.report_book (v : Verdict) : (s.report v).book = s.book := by
  unfold State.report; dsimp only; split <;> split <;> simp

/-! ### `State.latchSettings` -/

@[simp] theorem State.latchSettings_pending (size : Option (Nat × Nat)) : (s.latchSettings size).pending = s.pending := by
  unfold State.latchSettings; split <;> rfl
@[simp] theorem State.latchSettings_pins (size : Option (Nat × Nat)) : (s.latchSettings size).pins = s.pins := by
  unfold State.latchSettings; split <;> rfl
@[simp] theorem State.latchSettings_grid (size : Option (Nat × Nat)) : (s.latchSettings size).grid = s.grid := by
  unfold State.latchSettings; split <;> rfl
@[simp] theorem State.latchSettings_queue (size : Option (Nat × Nat)) : (s.latchSettings size).queue = s.queue := by
  unfold State.latchSettings; split <;> rfl
@[simp] theorem State.latchSettings_conv (size : Option (Nat × Nat)) : (s.latchSettings size).conv = s.conv := by
  unfold State.latchSettings; split <;> rfl
@[simp] theorem State.latchSettings_generator (size : Option (Nat × Nat)) : (s.latchSettings size).generator = s.generator := by
  unfold State.latchSettings; split <;> rfl
@[simp] theorem State.latchSettings_detector (size : Option (Nat × Nat)) : (s.latchSettings size).detector = s.detector := by
  unfold State.latchSettings; split <;> rfl
@[simp] theorem State.latchSettings_timing (size : Option (Nat × Nat)) : (s.latchSettings size).timing = s.timing := by
  unfold State.latchSettings; split <;> rfl
@[simp] theorem State.latchSettings_regions (size : Option (Nat × Nat)) : (s.latchSettings size).regions = s.regions := by
  unfold State.latchSettings; split <;> rfl
@[simp] theorem State.latchSettings_creds (size : Option (Nat × Nat)) : (s.latchSettings size).creds = s.creds := by
  unfold State.latchSettings; split <;> rfl
@[simp] theorem State.latchSettings_modes (size : Option (Nat × Nat)) : (s.latchSettings size).modes = s.modes := by
  unfold State.latchSettings; split <;> rfl
@[simp] theorem State.latchSettings_store (size : Option (Nat × Nat)) : (s.latchSettings size).store = s.store := by
  unfold State.latchSettings; split <;> rfl
@[simp] theorem State.latchSettings_linePort (size : Option (Nat × Nat)) : (s.latchSettings size).linePort = s.linePort := by
  unfold State.latchSettings; split <;> rfl
@[simp] theorem State.latchSettings_setPort (size : Option (Nat × Nat)) : (s.latchSettings size).setPort = s.setPort := by
  unfold State.latchSettings; split <;> rfl
@[simp] theorem State.latchSettings_attention (size : Option (Nat × Nat)) : (s.latchSettings size).attention = s.attention := by
  unfold State.latchSettings; split <;> rfl
@[simp] theorem State.latchSettings_book (size : Option (Nat × Nat)) : (s.latchSettings size).book = s.book := by
  unfold State.latchSettings; split <;> rfl

/-! ### `State.beginFrame` -/

@[simp] theorem State.beginFrame_pending (step : Nat) (input : Option InputFrame) : (s.beginFrame step input).pending = s.pending := by
  simp [State.beginFrame]
@[simp] theorem State.beginFrame_pins (step : Nat) (input : Option InputFrame) : (s.beginFrame step input).pins = s.pins := by
  simp [State.beginFrame]
@[simp] theorem State.beginFrame_grid (step : Nat) (input : Option InputFrame) : (s.beginFrame step input).grid = s.grid := by
  simp [State.beginFrame]
@[simp] theorem State.beginFrame_queue (step : Nat) (input : Option InputFrame) : (s.beginFrame step input).queue = s.queue := by
  simp [State.beginFrame]
@[simp] theorem State.beginFrame_conv (step : Nat) (input : Option InputFrame) : (s.beginFrame step input).conv = s.conv := by
  simp [State.beginFrame]
@[simp] theorem State.beginFrame_detector (step : Nat) (input : Option InputFrame) : (s.beginFrame step input).detector = s.detector := by
  simp [State.beginFrame]
@[simp] theorem State.beginFrame_regions (step : Nat) (input : Option InputFrame) : (s.beginFrame step input).regions = s.regions := by
  simp [State.beginFrame]
@[simp] theorem State.beginFrame_creds (step : Nat) (input : Option InputFrame) : (s.beginFrame step input).creds = s.creds := by
  simp [State.beginFrame]
@[simp] theorem State.beginFrame_modes (step : Nat) (input : Option InputFrame) : (s.beginFrame step input).modes = s.modes := by
  simp [State.beginFrame]
@[simp] theorem State.beginFrame_store (step : Nat) (input : Option InputFrame) : (s.beginFrame step input).store = s.store := by
  simp [State.beginFrame]
@[simp] theorem State.beginFrame_linePort (step : Nat) (input : Option InputFrame) : (s.beginFrame step input).linePort = s.linePort := by
  simp [State.beginFrame]
@[simp] theorem State.beginFrame_setPort (step : Nat) (input : Option InputFrame) : (s.beginFrame step input).setPort = s.setPort := by
  simp [State.beginFrame]
@[simp] theorem State.beginFrame_attention (step : Nat) (input : Option InputFrame) : (s.beginFrame step input).attention = s.attention := by
  simp [State.beginFrame]

/-! ### `State.beginFrameStart` -/

@[simp] theorem State.beginFrameStart_pending : s.beginFrameStart.pending = s.pending := by
  simp [State.beginFrameStart]
@[simp] theorem State.beginFrameStart_pins : s.beginFrameStart.pins = s.pins := by
  simp [State.beginFrameStart]
@[simp] theorem State.beginFrameStart_engine : s.beginFrameStart.engine = s.engine := by
  simp [State.beginFrameStart]
@[simp] theorem State.beginFrameStart_conv : s.beginFrameStart.conv = s.conv := by
  simp [State.beginFrameStart]
@[simp] theorem State.beginFrameStart_generator : s.beginFrameStart.generator = s.generator := by
  simp [State.beginFrameStart]
@[simp] theorem State.beginFrameStart_detector : s.beginFrameStart.detector = s.detector := by
  simp [State.beginFrameStart]
@[simp] theorem State.beginFrameStart_modes : s.beginFrameStart.modes = s.modes := by
  simp [State.beginFrameStart]
@[simp] theorem State.beginFrameStart_setPort : s.beginFrameStart.setPort = s.setPort := by
  simp [State.beginFrameStart]
@[simp] theorem State.beginFrameStart_book : s.beginFrameStart.book = s.book := by
  simp [State.beginFrameStart]

/-! ### `State.frameStart` -/

@[simp] theorem State.frameStart_pending (input : Option InputFrame) : (s.frameStart input).pending = s.pending := by
  simp [State.frameStart]
@[simp] theorem State.frameStart_pins (input : Option InputFrame) : (s.frameStart input).pins = s.pins := by
  simp [State.frameStart]
@[simp] theorem State.frameStart_conv (input : Option InputFrame) : (s.frameStart input).conv = s.conv := by
  simp [State.frameStart]
@[simp] theorem State.frameStart_modes (input : Option InputFrame) : (s.frameStart input).modes = s.modes := by
  simp [State.frameStart]
@[simp] theorem State.frameStart_setPort (input : Option InputFrame) : (s.frameStart input).setPort = s.setPort := by
  simp [State.frameStart]

/-! ### What the parts make of the fields they change -/

@[simp] theorem State.takeSelection_regions : s.takeSelection.regions = s.regions.takeEffect := by
  unfold State.takeSelection RegionTable.takeEffect
  split <;> simp

theorem State.takeSelection_store :
    s.takeSelection.store = { s.store with dirty := s.store.dirty || s.regions.selection.isSome } := by
  unfold State.takeSelection
  split <;> rename_i h <;> simp [h]

/-- The guard after a frame start has added its step: a guard that a report has just started is left (R50, R51). -/
theorem State.addGuard_queue (step : Nat) :
    (s.addGuard step).queue =
      { s.queue with
        guard :=
          match s.queue.guard with
          | .stopped => .stopped
          | .running acc =>
            if s.book.guardFresh then .running acc
            else if s.detector.guardTime ≤ acc + step then .stopped else .running (acc + step) } := by
  unfold State.addGuard
  cases hg : s.queue.guard with
  | stopped => dsimp only; rw [← hg]
  | running acc =>
    dsimp only
    split
    · rw [← hg]
    · split <;> simp

/-- The gap timer after a frame start has added its step: the load goes on, or is abandoned (R133). -/
theorem State.addGap_creds (step : Nat) :
    (s.addGap step).creds =
      match s.creds.loading with
      | none => s.creds
      | some l =>
        if 2000 ≤ l.gap + step then { slots := s.creds.slots.set l.slot .empty, loading := none }
        else { s.creds with loading := some { l with gap := l.gap + step } } := by
  unfold State.addGap Config.gapLimit
  cases hl : s.creds.loading with
  | none => rfl
  | some l =>
    dsimp only
    split
    · simp [State.abandonLoad, CredentialTable.finish, State.raiseIf]
    · rfl

@[simp] theorem State.applyQueue_entries (frame : FrameNumber) : (s.applyQueue frame).queue = { s.queue with entries := [] } := by
  unfold State.applyQueue; dsimp only; split <;> split <;> simp

@[simp] theorem State.applyQueue_grid (frame : FrameNumber) :
    (s.applyQueue frame).grid =
      { (applyEntries s.grid frame s.queue.entries).grid with
        allConverged := (applyEntries s.grid frame s.queue.entries).grid.judge } := by
  unfold State.applyQueue; dsimp only; split <;> split <;> simp

@[simp] theorem State.applyQueue_store (frame : FrameNumber) :
    (s.applyQueue frame).store =
      { s.store with dirty := s.store.dirty || (applyEntries s.grid frame s.queue.entries).dirty } := by
  unfold State.applyQueue; dsimp only; split <;> split <;> simp_all

theorem State.applyQueue_linePort (frame : FrameNumber) :
    (s.applyQueue frame).linePort =
      match (applyEntries s.grid frame s.queue.entries).reply with
      | none => s.linePort
      | some (status, fields) =>
        { s.linePort with
          phase := .ready, slot := some { status := status, tag := s.linePort.tag, payload := fields } } := by
  unfold State.applyQueue; dsimp only; split <;> split <;>
    simp_all [State.placeReply, State.withPort, State.port, State.setDirty]

/-- Nothing is applied: application is suspended, or the queue is empty. -/
theorem State.decideApplication_none (frame : FrameNumber) (h : s.suspended = true ∨ s.queue.entries = []) :
    s.decideApplication frame = s := by
  unfold State.decideApplication
  rcases h with h | h <;> simp [h]

/-- The queue is applied, and a pending step is spent. -/
theorem State.decideApplication_some (frame : FrameNumber) (h : s.suspended = false) (he : s.queue.entries ≠ []) :
    s.decideApplication frame =
      { s.applyQueue frame with
        queue := { s.queue with
          entries := [], hold := if s.queue.hold = .stepPending then .held else s.queue.hold } } := by
  unfold State.decideApplication
  have : s.queue.entries.isEmpty = false := by simpa using he
  simp only [h, this, Bool.or_self, Bool.false_eq_true, if_false]
  split
  · simp
  · rw [← State.applyQueue_entries]

theorem State.latchSettings_engine (size : Option (Nat × Nat)) :
    (s.latchSettings size).engine =
      if s.isReady then
        { s.engine with
          treatment := chooseTreatment s.generator.effective s.pins.signal
            (effectiveBypass s.engine.lineBypass s.engine.viewerBypass s.regions.active?) s.grid.descriptor size
          latched := s.grid.descriptor
          ceiling := ceilingOf s.regions.active?
          bypass := effectiveBypass s.engine.lineBypass s.engine.viewerBypass s.regions.active? }
      else { s.engine with treatment := .starting, latched := none, ceiling := 1023, bypass := false } := by
  unfold State.latchSettings; split <;> rfl

@[simp] theorem State.latchSettings_fields (size : Option (Nat × Nat)) :
    (s.latchSettings size).engine.lineBypass = s.engine.lineBypass ∧
      (s.latchSettings size).engine.viewerBypass = s.engine.viewerBypass := by
  rw [State.latchSettings_engine]; split <;> simp

@[simp] theorem State.beginFrame_generator (step : Nat) (input : Option InputFrame) :
    (s.beginFrame step input).generator = s.generator.takeSource := by
  simp [State.beginFrame]

/-- The frame begun: its content by source, signal and origin, with the size it keeps (R113). -/
theorem State.beginFrame_frame (step : Nat) (input : Option InputFrame) :
    (s.beginFrame step input).timing.frame =
      let content := contentBegun s.generator.requested s.pins.signal input
      let size := sizeBegun (s.beginFrame step input).engine content
      some { content := content, width := size.1, height := size.2, step := step,
             begunReady := s.isReady, cutOff := false } := by
  simp [State.beginFrame, PatternGenerator.takeSource, State.isReady]

/-! ### The guard at a frame start (R50, R51) -/

@[simp] theorem State.addGuard_stopped (step : Nat) (h : s.queue.guard = .stopped) : s.addGuard step = s := by
  simp [State.addGuard, h]

/-- A guard just started by a report does not count the step (R50, log 41). -/
@[simp] theorem State.addGuard_fresh (step : Nat) (h : s.book.guardFresh = true) : s.addGuard step = s := by
  unfold State.addGuard; split <;> simp_all

/-- A running guard adds the step, and stops when its time is reached (R51). -/
theorem State.addGuard_running (step acc : Nat) (h : s.queue.guard = .running acc) (hf : s.book.guardFresh = false) :
    s.addGuard step = s.withGuard (if s.detector.guardTime ≤ acc + step then .stopped else .running (acc + step)) := by
  simp [State.addGuard, h, hf]

/-- A source change clears the detector, whatever of the judgement was taken before (R101). -/
theorem State.verdictLeft_sourceChanges (h : s.sourceChanges = true) :
    s.verdictLeft =
      { state := .none, ends := s.detector.state.heldPattern?.isSome, starts := false } := by
  simp [State.verdictLeft, State.comingVerdict, h]

/-- A judgement not taken before its frame start is made there whole (R99). -/
theorem State.verdictLeft_notTaken (h : s.book.judgement = .notTaken) : s.verdictLeft = s.comingVerdict := by
  simp [State.verdictLeft, h]

/-- A judgement taken before its frame start is not made again (log 3). -/
theorem State.verdictLeft_taken (hs : s.sourceChanges = false) (h : s.book.judgement = .taken) :
    s.verdictLeft = { state := s.detector.state, ends := false, starts := false } := by
  simp [State.verdictLeft, hs, h]

/-- After an ending taken before its frame start, the start it left is still to be taken (R103, log 3). -/
theorem State.verdictLeft_endTaken (hs : s.sourceChanges = false) (h : s.book.judgement = .endTaken) :
    s.verdictLeft = s.remainingVerdict := by
  simp [State.verdictLeft, hs, h]

end FrameStart

end Sys2Proof.Machine
end

