-- ==== Sys2Proof/Laws/Grid.lean ====
section
/-! SUPPORT. What changing one record, and applying one entry, can do to the Grid Store; where records stand. -/

namespace Sys2Proof.Machine

open Sys2Proof

/-! ## Where records stand -/

theorem Descriptor.index_eq (d : Descriptor) (plane row column : Nat) :
    d.index plane row column = recordPlace d plane row column := rfl

/-- A knot and plane of the grid have a record (R5). -/
theorem Descriptor.index_lt {d : Descriptor} {plane row column : Nat} (hp : plane < d.planes) (hr : row < d.rows)
    (hc : column < d.columns) : d.index plane row column < d.triples := by
  have h1 : plane * d.rows + row + 1 ≤ d.planes * d.rows := by
    calc plane * d.rows + row + 1 ≤ plane * d.rows + d.rows := by omega
      _ = (plane + 1) * d.rows := by ring
      _ ≤ d.planes * d.rows := Nat.mul_le_mul_right _ hp
  calc d.index plane row column < (plane * d.rows + row) * d.columns + d.columns := by
        simp only [Descriptor.index]; omega
    _ = (plane * d.rows + row + 1) * d.columns := by ring
    _ ≤ d.planes * d.rows * d.columns := Nat.mul_le_mul_right _ h1
    _ = d.triples := by simp only [Descriptor.triples, Descriptor.knots]; ring

/-- Two different knot-planes of the grid have two different records. -/
theorem Descriptor.index_inj {d : Descriptor} {p r c p' r' c' : Nat} (hr : r < d.rows) (hc : c < d.columns)
    (hr' : r' < d.rows) (hc' : c' < d.columns) (h : d.index p r c = d.index p' r' c') : p = p' ∧ r = r' ∧ c = c' := by
  simp only [Descriptor.index] at h
  have hq : p * d.rows + r = p' * d.rows + r' := by
    have := congrArg (· / d.columns) h
    simpa [Nat.add_div_of_dvd_right, Nat.mul_add_div (show 0 < d.columns by omega), Nat.mul_comm _ d.columns,
      Nat.div_eq_of_lt hc, Nat.div_eq_of_lt hc'] using this
  have hcc : c = c' := by rw [hq] at h; omega
  have hpp : p = p' := by
    have := congrArg (· / d.rows) hq
    simpa [Nat.mul_add_div (show 0 < d.rows by omega), Nat.mul_comm _ d.rows, Nat.div_eq_of_lt hr,
      Nat.div_eq_of_lt hr'] using this
  subst hpp
  exact ⟨rfl, by omega, hcc⟩

/-! ## Changing one record -/

/-- Everything a change of one record can do: nothing, or the record replaced, its plane's counts moved along and the dirty
flag raised when trims, state or hits differ (R12, R13). -/
theorem Application.update_cases (a : Application) (d : Descriptor) (plane row column : Nat)
    (change : KnotRecord → Option KnotRecord) :
    a.update d plane row column change = a ∨
      ∃ old new, a.grid.records[d.index plane row column]? = some old ∧ change old = some new ∧
        a.update d plane row column change =
          { a with
            grid :=
              { a.grid with
                records := a.grid.records.set (d.index plane row column) new
                counts := a.grid.counts.modify plane (fun c => c.move old.state new.state) }
            dirty := a.dirty || old.differs new } := by
  unfold Application.update GridStore.record?
  split
  · exact .inl rfl
  · next old h =>
    split
    · exact .inl rfl
    · next new hn => exact .inr ⟨old, new, h, hn, rfl⟩

theorem Application.update_some {a : Application} {d : Descriptor} {plane row column : Nat}
    {change : KnotRecord → Option KnotRecord} {old new : KnotRecord}
    (h : a.grid.records[d.index plane row column]? = some old) (hn : change old = some new) :
    (a.update d plane row column change).grid.records = a.grid.records.set (d.index plane row column) new := by
  simp [Application.update, GridStore.record?, h, hn]

theorem Application.update_none {a : Application} {d : Descriptor} {plane row column : Nat}
    {change : KnotRecord → Option KnotRecord} {old : KnotRecord}
    (h : a.grid.records[d.index plane row column]? = some old) (hn : change old = none) :
    a.update d plane row column change = a := by
  simp [Application.update, GridStore.record?, h, hn]

/-- The dirty flag of an update: set when the record's trims, state or hits change (R12). -/
theorem Application.update_dirty {a : Application} {d : Descriptor} {plane row column : Nat}
    {f : KnotRecord → Option KnotRecord} {old new : KnotRecord} (h : a.grid.record? d plane row column = some old)
    (hf : f old = some new) :
    (a.update d plane row column f).dirty = (a.dirty || old.differs new) := by
  simp [Application.update, h, hf]

/-- A record differs when its trims, state or hits do; the applied frame and the limit set do not count (R12). -/
theorem KnotRecord.differs_iff (old new : KnotRecord) :
    old.differs new = true ↔ new.trim ≠ old.trim ∨ new.state ≠ old.state ∨ new.hits ≠ old.hits := by
  simp only [KnotRecord.differs, Bool.or_eq_true, bne_iff_ne, or_assoc, ne_comm]

@[simp] theorem Application.update_descriptor (a : Application) (d : Descriptor) (p r c : Nat)
    (f : KnotRecord → Option KnotRecord) : (a.update d p r c f).grid.descriptor = a.grid.descriptor := by
  obtain h | ⟨_, _, _, _, h⟩ := a.update_cases d p r c f <;> rw [h]

@[simp] theorem Application.update_writeSkip (a : Application) (d : Descriptor) (p r c : Nat)
    (f : KnotRecord → Option KnotRecord) : (a.update d p r c f).grid.writeSkip = a.grid.writeSkip := by
  obtain h | ⟨_, _, _, _, h⟩ := a.update_cases d p r c f <;> rw [h]

@[simp] theorem Application.update_allConverged (a : Application) (d : Descriptor) (p r c : Nat)
    (f : KnotRecord → Option KnotRecord) : (a.update d p r c f).grid.allConverged = a.grid.allConverged := by
  obtain h | ⟨_, _, _, _, h⟩ := a.update_cases d p r c f <;> rw [h]

@[simp] theorem Application.update_reply (a : Application) (d : Descriptor) (p r c : Nat)
    (f : KnotRecord → Option KnotRecord) : (a.update d p r c f).reply = a.reply := by
  obtain h | ⟨_, _, _, _, h⟩ := a.update_cases d p r c f <;> rw [h]

@[simp] theorem Application.update_length (a : Application) (d : Descriptor) (p r c : Nat)
    (f : KnotRecord → Option KnotRecord) : (a.update d p r c f).grid.records.length = a.grid.records.length := by
  obtain h | ⟨_, _, _, _, h⟩ := a.update_cases d p r c f <;> simp [h]

@[simp] theorem Application.update_counts_length (a : Application) (d : Descriptor) (p r c : Nat)
    (f : KnotRecord → Option KnotRecord) : (a.update d p r c f).grid.counts.length = a.grid.counts.length := by
  obtain h | ⟨_, _, _, _, h⟩ := a.update_cases d p r c f <;> simp [h]

/-- A change of one record leaves every other record. -/
theorem Application.update_other {a : Application} {d : Descriptor} {p r c i : Nat}
    {f : KnotRecord → Option KnotRecord} (hi : i ≠ d.index p r c) :
    (a.update d p r c f).grid.records[i]? = a.grid.records[i]? := by
  obtain h | ⟨_, _, _, _, h⟩ := a.update_cases d p r c f
  · rw [h]
  · rw [h]; exact List.getElem?_set_ne hi.symm

/-- The record that is changed, if it is there. -/
theorem Application.update_self {a : Application} {d : Descriptor} {p r c : Nat}
    {f : KnotRecord → Option KnotRecord} {old : KnotRecord}
    (h : a.grid.records[d.index p r c]? = some old) :
    (a.update d p r c f).grid.records[d.index p r c]? = some ((f old).getD old) := by
  have hl : d.index p r c < a.grid.records.length := (List.getElem?_eq_some_iff.mp h).1
  cases hf : f old with
  | none => rw [Application.update_none h hf, h]; rfl
  | some new => rw [Application.update_some h hf, List.getElem?_set_self hl]; rfl

/-! ## Counts -/

/-- Replacing one record moves one count to another (R13). -/
theorem StateCounts.ofRecords_set {l : List KnotRecord} {i : Nat} {old : KnotRecord} (new : KnotRecord)
    (h : l[i]? = some old) :
    StateCounts.ofRecords (l.set i new) = (StateCounts.ofRecords l).move old.state new.state := by
  obtain ⟨hi, ho⟩ := List.getElem?_eq_some_iff.mp h
  have pos : ∀ st, old.state = st → 0 < l.countP (fun r => r.state == st) := by
    intro st hst
    exact List.countP_pos_iff.mpr ⟨old, ho ▸ List.getElem_mem hi, by simp [hst]⟩
  simp only [StateCounts.ofRecords, List.countP_set hi, ho, StateCounts.move, StateCounts.change]
  have p := pos old.state rfl
  cases hs : old.state <;> cases hn : new.state <;> rw [hs] at p <;> simp <;> omega

/-- Replacing one record moves the counts of its plane and no other's (R13). -/
theorem countsOf_set {d : Descriptor} {l : List KnotRecord} {p r c : Nat} {old : KnotRecord} (new : KnotRecord)
    (hr : r < d.rows) (hc : c < d.columns)
    (h : l[d.index p r c]? = some old) :
    countsOf d (l.set (d.index p r c) new) = (countsOf d l).modify p (fun x => x.move old.state new.state) := by
  have hin : p * d.knots ≤ d.index p r c ∧ d.index p r c < (p + 1) * d.knots := by
    have h1 : r * d.columns + c < d.knots := by
      calc r * d.columns + c < (r + 1) * d.columns := by rw [Nat.add_mul]; omega
        _ ≤ d.rows * d.columns := Nat.mul_le_mul_right _ hr
        _ = d.knots := Nat.mul_comm _ _
    have h2 : d.index p r c = p * d.knots + (r * d.columns + c) := by
      simp only [Descriptor.index, Descriptor.knots]; ring
    rw [Nat.add_mul]; omega
  apply List.ext_getElem
  · simp [countsOf]
  · intro q h1 h2
    simp only [countsOf, List.length_map, List.length_range] at h1
    simp only [countsOf, List.getElem_map, List.getElem_range, List.getElem_modify]
    by_cases hq : p = q
    · subst hq
      simp only [if_true]
      have e : (((l.set (d.index p r c) new).drop (p * d.knots)).take d.knots) =
          ((l.drop (p * d.knots)).take d.knots).set (d.index p r c - p * d.knots) new := by
        rw [List.drop_set, if_neg (by omega), List.take_set]
      rw [e, StateCounts.ofRecords_set new (old := old)]
      rw [List.getElem?_take_of_lt (by rw [Nat.add_mul] at hin; omega), List.getElem?_drop, ← h]
      congr 1; omega
    · simp only [if_neg hq]
      congr 1
      apply List.ext_getElem?
      intro k
      simp only [List.getElem?_take, List.getElem?_drop]
      split
      · rw [List.getElem?_set_ne]
        intro he
        have hk : q * d.knots ≤ d.index p r c ∧ d.index p r c < (q + 1) * d.knots := by
          rw [Nat.add_mul]; omega
        have a1 : p < q + 1 := Nat.lt_of_mul_lt_mul_right (Nat.lt_of_le_of_lt hin.1 hk.2)
        have a2 : q < p + 1 := Nat.lt_of_mul_lt_mul_right (Nat.lt_of_le_of_lt hk.1 hin.2)
        omega
      · rfl

/-- A change of one record keeps the counts those of the records (R13). -/
theorem Application.update_counts {a : Application} {d : Descriptor} {p r c : Nat} {f : KnotRecord → Option KnotRecord}
    (hr : r < d.rows) (hc : c < d.columns) (h : a.grid.counts = countsOf d a.grid.records) :
    (a.update d p r c f).grid.counts = countsOf d (a.update d p r c f).grid.records := by
  obtain e | ⟨old, new, ho, _, e⟩ := a.update_cases d p r c f
  · rw [e]; exact h
  · rw [e]; simp only [h, countsOf_set new hr hc ho]

/-! ## Applying one entry -/

/-- What holds of an application and survives every change of a record survives a fold of such changes. -/
theorem Application.fold_keeps {α : Type} (good : Application → Prop) (l : List α) (f : Application → α → Application)
    (keeps : ∀ a x, x ∈ l → good a → good (f a x)) (a : Application) (h : good a) : good (l.foldl f a) := by
  induction l generalizing a with
  | nil => exact h
  | cons x l ih => exact ih (fun a y hy => keeps a y (.tail _ hy)) _ (keeps a x (.head _) h)

/-- What survives every change of a record, the write-skip count and the reply, survives the application of an entry. -/
theorem Application.apply_keeps (good : Application → Prop) (d : Descriptor) (frame : FrameNumber) (a : Application)
    (e : Entry) (h : good a) (change : ∀ a p r c f, good a → good (a.update d p r c f))
    (skip : ∀ (a : Application) n, good a → good { a with grid := { a.grid with writeSkip := n } })
    (answer : ∀ (a : Application) x, good a → good { a with reply := x }) : good (a.apply d frame e) := by
  cases e with
  | write c r p v =>
    simp only [Application.apply]
    split
    · exact h
    · split
      · exact change _ _ _ _ _ h
      · exact skip _ _ h
  | adjust c r p v =>
    simp only [Application.apply]
    split
    · exact h
    · split
      · exact change _ _ _ _ _ (answer _ _ h)
      · exact answer _ _ h
  | converge c r p t x l st => simp only [Application.apply]; exact change _ _ _ _ _ h
  | pinArea c0 r0 c1 r1 ps => exact Application.fold_keeps good _ _ (fun _ _ _ h => change _ _ _ _ _ h) a h
  | unpinArea c0 r0 c1 r1 ps => exact Application.fold_keeps good _ _ (fun _ _ _ h => change _ _ _ _ _ h) a h
  | retire c r => exact Application.fold_keeps good _ _ (fun _ _ _ h => change _ _ _ _ _ h) a h
  | restore c r => exact Application.fold_keeps good _ _ (fun _ _ _ h => change _ _ _ _ _ h) a h

@[simp] theorem Application.apply_descriptor (d : Descriptor) (frame : FrameNumber) (a : Application) (e : Entry) :
    (a.apply d frame e).grid.descriptor = a.grid.descriptor :=
  Application.apply_keeps (fun b => b.grid.descriptor = a.grid.descriptor) d frame a e rfl
    (fun _ _ _ _ _ h => by simpa using h) (fun _ _ h => h) (fun _ _ h => h)

@[simp] theorem Application.apply_length (d : Descriptor) (frame : FrameNumber) (a : Application) (e : Entry) :
    (a.apply d frame e).grid.records.length = a.grid.records.length :=
  Application.apply_keeps (fun b => b.grid.records.length = a.grid.records.length) d frame a e rfl
    (fun _ _ _ _ _ h => by simpa using h) (fun _ _ h => h) (fun _ _ h => h)

@[simp] theorem Application.apply_allConverged (d : Descriptor) (frame : FrameNumber) (a : Application) (e : Entry) :
    (a.apply d frame e).grid.allConverged = a.grid.allConverged :=
  Application.apply_keeps (fun b => b.grid.allConverged = a.grid.allConverged) d frame a e rfl
    (fun _ _ _ _ _ h => by simpa using h) (fun _ _ h => h) (fun _ _ h => h)

/-- The reply an entry leaves: an ADJUST entry that meets a record places its own; every other entry leaves it (R57). -/
theorem Application.apply_reply (d : Descriptor) (frame : FrameNumber) (a : Application) (e : Entry)
    (h : e.isAdjust = false) : (a.apply d frame e).reply = a.reply := by
  cases e with
  | adjust c r p v => simp [Entry.isAdjust] at h
  | write c r p v => simp only [Application.apply]; split <;> (try split) <;> simp
  | converge c r p t x l st => simp [Application.apply]
  | pinArea c0 r0 c1 r1 ps =>
    exact Application.fold_keeps (fun b => b.reply = a.reply) _ _ (fun _ _ _ h => by simpa using h) a rfl
  | unpinArea c0 r0 c1 r1 ps =>
    exact Application.fold_keeps (fun b => b.reply = a.reply) _ _ (fun _ _ _ h => by simpa using h) a rfl
  | retire c r =>
    exact Application.fold_keeps (fun b => b.reply = a.reply) _ _ (fun _ _ _ h => by simpa using h) a rfl
  | restore c r =>
    exact Application.fold_keeps (fun b => b.reply = a.reply) _ _ (fun _ _ _ h => by simpa using h) a rfl

/-- An application of a whole queue keeps what the application of each entry keeps. -/
theorem applyEntries_keeps (good : Application → Prop) (g : GridStore) (frame : FrameNumber) (entries : List Entry)
    (h : good { grid := g, dirty := false, reply := none })
    (keeps : ∀ d a e, g.descriptor = some d → e ∈ entries → good a → good (a.apply d frame e)) :
    good (applyEntries g frame entries) := by
  unfold applyEntries
  split
  · exact h
  · next d hd => exact Application.fold_keeps good _ _ (fun a e he => keeps d a e hd he) _ h

@[simp] theorem applyEntries_descriptor (g : GridStore) (frame : FrameNumber) (entries : List Entry) :
    (applyEntries g frame entries).grid.descriptor = g.descriptor :=
  applyEntries_keeps (fun a => a.grid.descriptor = g.descriptor) g frame entries rfl (fun _ _ _ _ _ h => by simpa using h)

@[simp] theorem applyEntries_length (g : GridStore) (frame : FrameNumber) (entries : List Entry) :
    (applyEntries g frame entries).grid.records.length = g.records.length :=
  applyEntries_keeps (fun a => a.grid.records.length = g.records.length) g frame entries rfl
    (fun _ _ _ _ _ h => by simpa using h)

end Sys2Proof.Machine
end

