-- ==== Sys2Proof/Laws/Operands.lean ====
section
/-! SUPPORT. What the encoders of fields write, the readers of payloads read back. -/

namespace Sys2Proof.Machine

open Sys2Proof

/-! ### Lengths -/

@[simp] theorem u8_length (n : Nat) : (u8 n).length = 1 := rfl
@[simp] theorem u16_length (n : Nat) : (u16 n).length = 2 := rfl
@[simp] theorem u32_length (n : Nat) : (u32 n).length = 4 := rfl
@[simp] theorem s16_length (i : Int) : (s16 i).length = 2 := rfl

theorem flatMap_u16_length (l : List Nat) : (l.flatMap u16).length = 2 * l.length := by
  induction l with
  | nil => rfl
  | cons a l ih => simp only [List.flatMap_cons, List.length_append, u16_length, ih, List.length_cons]; omega

/-! ### Numbers -/

theorem nat16_u16 (n : Nat) (h : n < 65536) :
    nat16 (BitVec.ofNat 8 n) (BitVec.ofNat 8 (n / 256)) = n := by
  simp only [nat16, BitVec.toNat_ofNat]; omega

@[simp] theorem read8_u8 (n : Nat) (h : n < 256) (rest : List Byte) : read8 (u8 n ++ rest) = .ok (n, rest) := by
  simp only [u8, read8, List.cons_append, List.nil_append, BitVec.toNat_ofNat]
  rw [Nat.mod_eq_of_lt (by omega)]

@[simp] theorem read16_u16 (n : Nat) (h : n < 65536) (rest : List Byte) : read16 (u16 n ++ rest) = .ok (n, rest) := by
  simp only [u16, read16, List.cons_append, List.nil_append, nat16_u16 n h]

@[simp] theorem read8_u8_end (n : Nat) (h : n < 256) : read8 (u8 n) = .ok (n, []) := read8_u8 n h []

@[simp] theorem read8_byte (b : Byte) (rest : List Byte) : read8 (b :: rest) = .ok (b.toNat, rest) := rfl

@[simp] theorem read16_u16_end (n : Nat) (h : n < 65536) : read16 (u16 n) = .ok (n, []) := by
  simpa using read16_u16 n h []

theorem int16_s16 (i : Int) (h : -32768 ≤ i ∧ i ≤ 32767) :
    int16 (BitVec.ofNat 8 (BitVec.ofInt 16 i).toNat) (BitVec.ofNat 8 ((BitVec.ofInt 16 i).toNat / 256)) = i := by
  have hlt : (BitVec.ofInt 16 i).toNat < 65536 := (BitVec.ofInt 16 i).isLt
  rw [int16, nat16_u16 _ hlt, BitVec.ofNat_toNat, BitVec.setWidth_eq, BitVec.toInt_ofInt, Int.bmod_def]
  omega

@[simp] theorem readInt16_s16 (i : Int) (h : -32768 ≤ i ∧ i ≤ 32767) (rest : List Byte) :
    readInt16 (s16 i ++ rest) = .ok (i, rest) := by
  simp only [s16, u16, readInt16, List.cons_append, List.nil_append, int16_s16 i h]

theorem check32_u32 (k : CheckValue) :
    check32 (BitVec.ofNat 8 k.toNat) (BitVec.ofNat 8 (k.toNat / 256)) (BitVec.ofNat 8 (k.toNat / 65536))
      (BitVec.ofNat 8 (k.toNat / 65536 / 256)) = k := by
  have hlt : k.toNat < 4294967296 := k.isLt
  apply BitVec.eq_of_toNat_eq
  simp only [check32, nat16, BitVec.toNat_ofNat]
  omega

/-! ### Sets -/

theorem channelSet?_number (c : ChannelSet) (h : someChannel c) : channelSet? (channelNumber c) = some c := by
  obtain ⟨r, g, b⟩ := c
  revert h
  cases r <;> cases g <;> cases b <;> decide

theorem channelNumber_lt (c : ChannelSet) : channelNumber c < 256 := by
  obtain ⟨r, g, b⟩ := c
  cases r <;> cases g <;> cases b <;> decide

/-- Reading one field for each channel of a set gives back what was written, when each reading does. -/
theorem readChannels_fields {α : Type} (read : List Byte → Check (α × List Byte)) (field : α → List Byte)
    (c : ChannelSet) (v : Rgb α) (rest : List Byte)
    (h : everyChannel (fun a => ∀ more, read (field a ++ more) = .ok (a, more)) v) :
    readChannels read c (channelFields field c v ++ rest) = .ok (carried c v, rest) := by
  obtain ⟨r, g, b⟩ := c
  obtain ⟨hr, hg, hb⟩ := h
  cases r <;> cases g <;> cases b <;>
    simp [readChannels, readChannel, channelFields, carried, hr, hg, hb, bind, Except.bind, pure, Except.pure]

/-! ### Checks -/

@[simp] theorem check_bind_ok {α β : Type} (a : α) (f : α → Check β) : (Except.ok a >>= f : Check β) = f a := rfl
@[simp] theorem check_bind_error {α β : Type} (e : Status × List Byte) (f : α → Check β) :
    (Except.error e >>= f : Check β) = .error e := rfl
@[simp] theorem check_pure {α : Type} (a : α) : (pure a : Check α) = .ok a := rfl

theorem require_pos {c : Bool} (h : c = true) (st : Status) (fields : List Byte) : require c st fields = .ok () := by
  rw [h]; rfl

theorem require_neg {c : Bool} (h : c = false) (st : Status) (fields : List Byte) :
    require c st fields = .error (st, fields) := by
  rw [h]; rfl

@[simp] theorem require_true (st : Status) (fields : List Byte) : require true st fields = .ok () := rfl
@[simp] theorem require_false (st : Status) (fields : List Byte) : require false st fields = .error (st, fields) := rfl
@[simp] theorem requireSome_some {α : Type} (a : α) (st : Status) (fields : List Byte) :
    requireSome (some a) st fields = .ok a := rfl
@[simp] theorem requireSome_none {α : Type} (st : Status) (fields : List Byte) :
    requireSome (none : Option α) st fields = .error (st, fields) := rfl

@[simp] theorem index?_val {n : Nat} (i : Fin n) : index? n i.val = some i := by simp [index?]

theorem index?_none {n i : Nat} (h : n ≤ i) : index? n i = none := by simp [index?, Nat.not_lt.mpr h]

/-- A byte field for a table index, read back. -/
theorem read8_index {n : Nat} (hn : n ≤ 256) (i : Fin n) (rest : List Byte) : read8 (u8 i ++ rest) = .ok (i.val, rest) :=
  read8_u8 i.val (by omega) rest

/-! ### Tables -/

@[simp] theorem mapTable_get {α β : Type} {n : Nat} (f : α → β) (v : Vector α n) (i : Fin n) :
    (mapTable f v)[i] = f v[i] := by
  simp [mapTable, Fin.getElem_fin]

/-- The least index that meets a test, when it and no lower one does. -/
theorem findIndex?_eq_some {α : Type} {n : Nat} (v : Vector α n) (test : α → Bool) (i : Fin n) (h : test v[i] = true)
    (least : ∀ j : Fin n, j < i → test v[j] = false) : findIndex? v test = some i := by
  unfold findIndex?
  rw [List.find?_eq_some_iff_getElem]
  refine ⟨h, i.val, by simp, by simp, ?_⟩
  intro j hj
  have := least ⟨j, by omega⟩ (by simpa [Fin.lt_def] using hj)
  simpa using this

theorem findIndex?_eq_none {α : Type} {n : Nat} (v : Vector α n) (test : α → Bool)
    (h : ∀ i : Fin n, test v[i] = false) : findIndex? v test = none := by
  unfold findIndex?
  rw [List.find?_eq_none]
  intro i _
  rw [h i]
  decide

/-! ### Descriptors -/

/-- Each number is below the next exactly when every earlier number is below every later one. -/
theorem strictlyIncreasing_iff (l : List Nat) : strictlyIncreasing l = true ↔ l.Pairwise (· < ·) := by
  induction l with
  | nil => simp [strictlyIncreasing]
  | cons a l ih =>
    cases l with
    | nil => simp [strictlyIncreasing]
    | cons b l =>
      rw [strictlyIncreasing, Bool.and_eq_true, ih, List.pairwise_cons (a := a)]
      simp only [decide_eq_true_eq]
      constructor
      · rintro ⟨h, hp⟩
        refine ⟨?_, hp⟩
        intro x hx
        rcases List.mem_cons.mp hx with rfl | hx
        · exact h
        · exact lt_trans h (List.rel_of_pairwise_cons hp hx)
      · rintro ⟨h, hp⟩
        exact ⟨h b (by simp), hp⟩

/-- A sound descriptor's columns and rows fit two bytes. -/
theorem Descriptor.columns_rows_le {d : Descriptor} (h : d.sound) : d.columns ≤ 242 ∧ d.rows ≤ 137 ∧ d.planes ≤ 8 := by
  obtain ⟨hw, hh, he, hl, -, -, -⟩ := h
  have hs : 32 ≤ d.spacing := by
    unfold Descriptor.spacing
    calc 32 = 2 ^ 5 := rfl
      _ ≤ 2 ^ d.exponent := Nat.pow_le_pow_right (by omega) he.1
  have key : ∀ n, ceilDiv n d.spacing ≤ n / 32 + 1 := by
    intro n
    have h1 : ceilDiv n d.spacing ≤ n / d.spacing + 1 := by
      unfold ceilDiv
      calc (n + (d.spacing - 1)) / d.spacing ≤ (n + d.spacing) / d.spacing := Nat.div_le_div_right (by omega)
        _ = n / d.spacing + 1 := Nat.add_div_right n (by omega)
    have h2 : n / d.spacing ≤ n / 32 := Nat.div_le_div_left hs (by omega)
    omega
  have hc := key d.width
  have hr := key d.height
  refine ⟨?_, ?_, hl.2⟩
  · unfold Descriptor.columns; omega
  · unfold Descriptor.rows; omega

end Sys2Proof.Machine
end

