-- ==== Sys2Proof/Laws/Image.lean ====
section
/-! SUPPORT. What the shared operations over slots, profiles and the image can do: saving, loading, binding, returning. -/

namespace Sys2Proof.Machine

open Sys2Proof

/-! ## Slots -/

@[simp] theorem Slot.saved_isLoading (x : Slot) : x.saved.isLoading = false := by cases x <;> rfl

/-- A saved slot is the slot itself, but a LOADING one is EMPTY (R156). -/
theorem Slot.saved_eq (x : Slot) : x.saved = if x.isLoading then .empty else x := by cases x <;> rfl

theorem Slot.saved_sound {x : Slot} (h : x.sound) : x.saved.sound := by cases x <;> first | exact h | trivial

theorem Slot.bind_sound {x : Slot} (h : x.sound) : x.bind.sound := by cases x <;> exact h

theorem Slot.unbind_sound {x : Slot} (h : x.sound) : x.unbind.sound := by cases x <;> exact h

@[simp] theorem Slot.bind_class (x : Slot) : x.bind.class? = x.class? := by cases x <;> rfl

@[simp] theorem Slot.unbind_class (x : Slot) : x.unbind.class? = x.class? := by cases x <;> rfl

@[simp] theorem Slot.bind_isLoading (x : Slot) : x.bind.isLoading = x.isLoading := by cases x <;> rfl

@[simp] theorem Slot.unbind_isLoading (x : Slot) : x.unbind.isLoading = x.isLoading := by cases x <;> rfl

@[simp] theorem Slot.unbind_unbind (x : Slot) : x.unbind.unbind = x.unbind := by cases x <;> rfl

/-- Whatever an interrupted revocation write leaves in an image entry is a REVOKED slot whose length its class allows (R125,
R126, R140; log 16). -/
theorem Slot.markRevoked_revoked (draw : Nat) (x : Slot) : (x.markRevoked draw).isRevoked = true := by
  cases x <;> rfl

@[simp] theorem CredentialTable.bindAll_slot (t : CredentialTable) (i : Fin 16) :
    t.bindAll.slots[i] = t.slots[i].bind := mapTable_get ..

@[simp] theorem CredentialTable.bindAll_loading (t : CredentialTable) : t.bindAll.loading = t.loading := rfl

/-- A fault of Ship returns exactly the slots on the list (R151). -/
theorem unbind_fold (list : List (Fin 16)) (v : Vector Slot 16) (i : Fin 16) :
    (list.foldl (fun (v : Vector Slot 16) (j : Fin 16) => v.set j (v[j].unbind)) v)[i] =
      if i ∈ list then v[i].unbind else v[i] := by
  induction list generalizing v with
  | nil => simp
  | cons j list ih =>
    rw [List.foldl_cons, ih]
    by_cases h : i = j
    · subst h; by_cases hm : i ∈ list <;> simp [hm]
    · have h' : (j : Nat) ≠ i := fun e => h (Fin.ext e.symm)
      simp [h, h']

@[simp] theorem CredentialTable.unbindAll_slot (t : CredentialTable) (list : List (Fin 16)) (i : Fin 16) :
    (t.unbindAll list).slots[i] = if i ∈ list then t.slots[i].unbind else t.slots[i] := unbind_fold list t.slots i

@[simp] theorem CredentialTable.unbindAll_loading (t : CredentialTable) (list : List (Fin 16)) :
    (t.unbindAll list).loading = t.loading := rfl

/-! ## The image -/

@[simp] theorem State.contents_profiles (s : State) : s.contents.profiles = s.regions.profiles := rfl

@[simp] theorem State.contents_slot (s : State) (i : Fin 16) :
    s.contents.slots[i] = s.creds.slots[i].saved := mapTable_get ..

/-- A save takes the records as they stand (R156, R158). -/
theorem State.contents_holds (s : State) : holdsRecordsOf s.contents s := by
  refine ⟨fun h => by simp [State.contents, h], fun d h => ?_, rfl, fun i => ?_⟩
  · simp [State.contents, h, KnotRecord.saved]
  · rw [State.contents_slot, Slot.saved_eq]

/-- The Grid Store a load restores has the image's descriptor and records (R21). -/
theorem restoredGrid_some (d : Descriptor) (saved : List SavedRecord) :
    (restoredGrid (some (d, saved))).descriptor = some d ∧
      (restoredGrid (some (d, saved))).records = saved.map SavedRecord.restored ∧
      (restoredGrid (some (d, saved))).counts = countsOf d (saved.map SavedRecord.restored) ∧
      (restoredGrid (some (d, saved))).writeSkip = 0 := ⟨rfl, rfl, rfl, rfl⟩

end Sys2Proof.Machine
end

