-- ==== Sys2Proof/Laws/Ports.lean ====
section
/-! SUPPORT. What a port does with a frame: one lemma for each way `serve` can go, and the header that a written frame
carries. -/

namespace Sys2Proof.Machine

open Sys2Proof

/-- The header read from a written frame is the one written. -/
theorem header?_bytes (h : Header) (hlen : h.payload.length ≤ 256) : header? h.bytes = some h := by
  simp only [Header.bytes, u16, header?, List.cons_append, List.nil_append, nat16_u16 _ (by omega : h.payload.length < 65536)]
  simp [hlen]

theorem header?_frameOf (level tag : Byte) (payload : List Byte) (hlen : payload.length ≤ 256) :
    header? (frameOf level tag payload) = some { level := level, tag := tag, payload := payload } :=
  header?_bytes _ hlen

theorem header?_short (bytes : List Byte) (h : bytes.length < 4) : header? bytes = none := by
  match bytes with
  | [] => rfl
  | [_] => rfl
  | [_, _] => rfl
  | [_, _, _] => rfl
  | _ :: _ :: _ :: _ :: _ => simp at h; omega

/-- No frame is taken while the ports are deaf. -/
theorem serve_deaf {s : State} {g : Gate} {p : PortId} {bytes : List Byte} {own : Call → State → Check Answer}
    (h : s.deaf = true) : s.serve g p bytes own = s := by
  simp [State.serve, h]

/-- A frame met while PENDING sets the ignored mark. -/
theorem serve_pending {s : State} {g : Gate} {p : PortId} {bytes : List Byte} {own : Call → State → Check Answer}
    (h : s.deaf = false) (hp : (s.port p).phase = .pending) :
    s.serve g p bytes own = s.loseFrame p := by
  simp [State.serve, h, hp]

/-- A frame that the port takes is judged. -/
theorem serve_listens {s : State} {g : Gate} {p : PortId} {bytes : List Byte} {own : Call → State → Check Answer}
    (h : s.listens p) : s.serve g p bytes own = s.judge g p bytes own := by
  simp [State.serve, h.1, h.2]

/-- A written frame that passes the port's checks reaches its owning block. -/
theorem serve_taken {s : State} {g : Gate} {p : PortId} {level tag : Byte} {payload : List Byte}
    {own : Call → State → Check Answer} (h : s.listens p) (hlen : payload.length ≤ 256)
    (hgate : g.lengthHolds payload = true) (hready : s.store.startUp = .ready ∨ g.starting = true)
    (hlevel : s.effectiveLevel p level ≤ g.level s payload) :
    s.serve g p (frameOf level tag payload) own =
      s.settle p tag (own { port := p, level := s.effectiveLevel p level, tag := tag, payload := payload } s) := by
  rw [serve_listens h, State.judge, header?_frameOf level tag payload hlen]
  have hl : ¬ g.level s payload < s.effectiveLevel p level := Nat.not_lt.mpr hlevel
  rcases hready with hr | hr <;> simp [hgate, hr, hl]

/-- A written frame of an admitted request reaches its owning block. -/
theorem serve_admitted {s : State} {g : Gate} {p : PortId} {level tag : Byte} {payload : List Byte}
    {own : Call → State → Check Answer} {required : Nat} (h : s.admits p level required) (hlen : payload.length ≤ 256)
    (hgate : g.lengthHolds payload = true) (hlevel : g.level s payload = required) :
    s.serve g p (frameOf level tag payload) own =
      s.settle p tag (own { port := p, level := s.effectiveLevel p level, tag := tag, payload := payload } s) :=
  serve_taken h.1 hlen hgate (.inl h.2.1) (by rw [hlevel]; exact h.2.2)

/-- Everything a frame of an assigned request can do: nothing, the ignored mark, an answer of the port's own checks, or what
its owning block makes of it. -/
theorem serve_cases {s t : State} {g : Gate} {p : PortId} {bytes : List Byte} {own : Call → State → Check Answer}
    (h : s.serve g p bytes own = t) :
    t = s ∨
    (s.deaf = false ∧ (s.port p).phase = .pending ∧ t = s.loseFrame p) ∨
    (s.listens p ∧ ∃ tag status, t = s.answered p tag status []) ∨
    (s.listens p ∧ ∃ c : Call, c.port = p ∧ (s.store.startUp = .ready ∨ g.starting = true) ∧
      c.level ≤ g.level s c.payload ∧ (∃ level, c.level = s.effectiveLevel p level) ∧
      g.lengthHolds c.payload = true ∧ t = s.settle p c.tag (own c s)) := by
  unfold State.serve at h
  split at h
  · exact .inl h.symm
  · rename_i hdeaf
    split at h
    · rename_i hp
      exact .inr (.inl ⟨by simpa using hdeaf, hp, h.symm⟩)
    · rename_i hp
      have hl : s.listens p := ⟨by simpa using hdeaf, hp⟩
      unfold State.judge at h
      split at h
      · exact .inr (.inr (.inl ⟨hl, _, _, h.symm⟩))
      · rename_i hd _
        split at h
        · exact .inr (.inr (.inl ⟨hl, _, _, h.symm⟩))
        · rename_i hlen
          split at h
          · exact .inr (.inr (.inl ⟨hl, _, _, h.symm⟩))
          · rename_i hst
            split at h
            · exact .inr (.inr (.inl ⟨hl, _, _, h.symm⟩))
            · rename_i hlev
              refine .inr (.inr (.inr ⟨hl, _, ?_, ?_, ?_, ?_, ?_, h.symm⟩))
              · rfl
              · cases hr : s.store.startUp <;> simp_all
              · exact Nat.not_lt.mp hlev
              · exact ⟨_, rfl⟩
              · simpa using hlen

/-- What a settled request leaves: an answer with nothing changed, or what the block answers. -/
theorem settle_cases {s t : State} {p : PortId} {tag : Byte} {a : Check Answer} (h : s.settle p tag a = t) :
    (∃ status fields, a = .error (status, fields) ∧ t = s.answered p tag status fields) ∨
    (∃ status payload after, a = .ok (.reply status payload after) ∧ t = after.answered p tag status payload) ∨
    (∃ after, a = .ok (.wait after) ∧ t = after.awaiting p tag) ∨
    (∃ after, a = .ok (.silent after) ∧ t = after) := by
  unfold State.settle at h
  split at h
  · exact .inl ⟨_, _, rfl, h.symm⟩
  · exact .inr (.inl ⟨_, _, _, rfl, h.symm⟩)
  · exact .inr (.inr (.inl ⟨_, rfl, h.symm⟩))
  · exact .inr (.inr (.inr ⟨_, rfl, h.symm⟩))

@[simp] theorem settle_error (s : State) (p : PortId) (tag : Byte) (status : Status) (fields : List Byte) :
    s.settle p tag (.error (status, fields)) = s.answered p tag status fields := rfl
@[simp] theorem settle_reply (s after : State) (p : PortId) (tag : Byte) (status : Status) (payload : List Byte) :
    s.settle p tag (.ok (.reply status payload after)) = after.answered p tag status payload := rfl
@[simp] theorem settle_wait (s after : State) (p : PortId) (tag : Byte) :
    s.settle p tag (.ok (.wait after)) = after.awaiting p tag := rfl
@[simp] theorem settle_silent (s after : State) (p : PortId) (tag : Byte) :
    s.settle p tag (.ok (.silent after)) = after := rfl

/-! ### What the part puts out -/

/-- LSDO carries 0x00 throughout a transaction that is no fetch (R166). -/
theorem lsdo_no_fetch {s : State} (h : s.deaf = false) {direction : Byte} (hd : direction.toNat ≠ 0xA5) (k : Nat) :
    s.lsdo direction k = some 0 := by
  cases k <;> simp [State.lsdo, h, hd]

/-- What LSDO carries after the direction byte of a fetch: the port state byte, the response, then 0x00 (R166). -/
theorem lsdo_fetch {s : State} (h : s.deaf = false) (n : Nat) :
    s.lsdo 0xA5 (n + 1) = some ((s.linePort.stateByte :: s.linePort.response).getD n 0) := by
  simp [State.lsdo, h]

/-- A fetch records the port state byte and the bytes clocked out after it (R166, R167). -/
theorem fetch_port {s : State} (h : s.deaf = false) (p : PortId) (n : Nat) :
    s.fetch p n =
      s.withPort p { (s.port p).afterFetch n with driven := (s.port p).stateByte :: (s.port p).clockedOut n } := by
  obtain ⟨h1, h2⟩ : s.pins.supply = true ∧ s.pins.resetAsserted = false := by simpa [State.deaf] using h
  simp [State.fetch, h1, h2]

/-- Every acknowledge bit of the part in a transfer is the acknowledgement of the transfer's address (R167). -/
theorem acknowledgements_eq (s : State) (t : SetTransfer) :
    ∀ bit ∈ s.acknowledgements t, bit = s.acknowledges t.address := by
  cases t with
  | write a bytes => exact fun _ h => (List.mem_replicate.mp h).2
  | read a taken => exact fun _ h => List.mem_singleton.mp h

/-- A transfer gives a command just where its address is acknowledged (R167). -/
theorem transferCommand?_eq_some {s : State} {t : SetTransfer} {i : Instr} :
    s.transferCommand? t = some i ↔ s.acknowledges t.address = true ∧ decodeTransfer t = i := by
  unfold State.transferCommand?; split <;> simp_all

/-- No port admits a level-1 request in FIELD mode, and the Set Port admits none in any mode (R144). -/
theorem admits_one {s : State} {p : PortId} {level : Byte} (h : s.effectiveLevel p level ≤ 1) :
    s.modes.mode ≠ .field ∧ p = .line := by
  unfold State.effectiveLevel floor at h
  cases p <;> cases hm : s.modes.mode <;> simp_all

end Sys2Proof.Machine
end

