-- ==== Sys2Proof/Tests/Slice0.lean ====
section
/-! SUPPORT. Tests: terms that are no commands, frames written out from R166 and R170, the spec's worked cases, one step
of each command on a small state, and a witness for the hypotheses of each statement. -/

namespace Sys2Proof.Tests

open Sys2Proof Sys2Proof.Machine

/-! ## Small states -/

/-- The part right after a start-up load that found a BLANK image. -/
def ready : State := { State.reset with store := { State.reset.store with startUp := .ready } }

/-- A grid of 4 columns, 3 rows and 2 planes. -/
def small : Descriptor := { width := 640, height := 360, exponent := 8, levels := [64, 512] }

/-- The part with `small` defined. -/
def gridded : State := ready.defineGrid small

/-- A pattern of plane 0's level, held since frame 1. -/
def flat64 : Pattern := { tag := 1, kind := .flat, level := 64, channels := ⟨true, true, true⟩ }

/-- The part with `flat64` held and the targets of plane 0 set. -/
def holding : State :=
  { gridded with
    detector := { gridded.detector with state := .held flat64 .external 1 }
    conv := { gridded.conv with targets := gridded.conv.targets.set 0 ⟨40000, 40000, 40000⟩ } }

/-- An input frame of `small`'s size that carries `flat64`'s marker (R95). -/
def marked : InputFrame := { width := 640, height := 360, line0 := [709, 314, 1, 64, 7, 959] }

/-- A frame in progress that shows `flat64`. -/
def showing : Frame :=
  { content := .input marked, width := 640, height := 360, step := 17, begunReady := true, cutOff := false }

/-- The part with a present input whose frame shows `flat64`. -/
def watching : State :=
  { gridded with
    pins := { gridded.pins with signal := true }
    timing := { gridded.timing with frame := some showing } }

/-- A STORED profile's fields. -/
def uk : Region :=
  { code := 44, family := .f50, ceiling := 900, allowsContent := true, allowsPlatform := false, viewerBypass := true }

/-- The part with `uk` in profile 2. -/
def regional (st : ProfileState) : State :=
  { gridded with regions := { gridded.regions with profiles := gridded.regions.profiles.set 2 (.held st uk) } }

/-- Thirty-two data bytes. -/
def key : List Byte := List.replicate 32 0x5A

/-- The part with a slot 3 as given. -/
def keyed (x : Slot) : State := { ready with creds := { ready.creds with slots := ready.creds.slots.set 3 x } }

/-- The part that loads slot 3, with some data received. -/
def loading (c : KeyClass) (data : List Byte) : State :=
  { ready with
    creds := { slots := ready.creds.slots.set 3 (.loading c 32 data), loading := some { slot := 3, gap := 0 } } }

/-- The part in FIELD mode, its fuse set, with a BOUND service credential in slot 3. -/
def shipped : State :=
  { keyed (.bound .service 32 key 0) with modes := { ready.modes with mode := .field, fuse := true } }

/-- The part with one retired neighbour of knot (1, 1): the worked case of 1.5, on one plane of `small`. -/
def fillCase : List (Nat × Rgb Int × KnotState) :=
  [(4, ⟨120, -31, 4⟩, .tracking), (6, ⟨95, -30, 6⟩, .pinned), (1, ⟨500, 500, 500⟩, .retired), (9, ⟨-40, -30, 5⟩, .converged)]

/-- What a record holds after `fillCase` is put into the grid. -/
def fillGrid : GridStore :=
  fillCase.foldl (fun (g : GridStore) k =>
    { g with records := g.records.modify k.1 (fun r => { r with trim := k.2.1, state := k.2.2 }) }) gridded.grid

/-- The state a command leaves. -/
def after (i : Instr) (s : State) : State :=
  match exec i s with
  | .next t => t
  | _ => s

/-! ## Terms that are no commands of their rows (log 34) -/

theorem test_unknownRequest_assigned_code : wellFormed (.unknownRequest .line 0x13 []) = false := by decide
theorem test_unknownRequest_code_00 : wellFormed (.unknownRequest .line 0x00 []) = false := by decide
theorem test_ignoredFrame_of_a_request : wellFormed (.ignoredFrame .set [0x02, 2, 0, 0, 0]) = false := by decide
theorem test_ignoredTransaction_of_a_fetch : wellFormed (.ignoredTransaction [0xA5, 0]) = false := by decide
theorem test_inputFrame_without_lines : wellFormed (.inputFrameStart ⟨640, 0, [1, 2, 3, 4, 5, 6]⟩) = false := by decide
theorem test_frameStart_of_a_short_line : wellFormed (.frameStart (.input ⟨640, 360, [1, 2, 3, 4, 5]⟩)) = false := by
  decide
theorem test_illFormed_is_refused : exec (.unknownRequest .line 0x13 []) ready = .refused .illFormed := rfl

/-! ## Frames and transactions, byte by byte (R166, R170) -/

theorem test_decode_readStatus : decodeTransaction [0x5A, 0x02, 2, 9, 0, 0] = .readStatus .line [2, 9, 0, 0] := by decide
theorem test_decode_defineGrid :
    decodeFrame .line [0x10, 1, 7, 12, 0, 0x00, 0x0F, 0x70, 0x08, 6, 3, 64, 0, 0, 2, 0xAC, 3] =
      .defineGrid .line [1, 7, 12, 0, 0x00, 0x0F, 0x70, 0x08, 6, 3, 64, 0, 0, 2, 0xAC, 3] := by decide
theorem test_decode_stepUpdates : decodeFrame .line [0x1D, 0, 1, 0, 0] = .stepUpdates .line [0, 1, 0, 0] := by decide
theorem test_decode_readConvergence :
    decodeFrame .set [0x23, 2, 1, 0, 0] = .readConvergence .set [2, 1, 0, 0] := by decide
theorem test_decode_selectSource :
    decodeFrame .line [0x30, 1, 1, 1, 0, 1] = .selectSource .line [1, 1, 1, 0, 1] := by decide
theorem test_decode_readRegions : decodeFrame .set [0x45, 2, 1, 0, 0] = .readRegions .set [2, 1, 0, 0] := by decide
theorem test_decode_eraseSlot : decodeFrame .line [0x57, 1, 1, 1, 0, 3] = .eraseSlot .line [1, 1, 1, 0, 3] := by decide
theorem test_decode_ship : decodeFrame .line [0x61, 1, 1, 1, 0, 0] = .ship .line [1, 1, 1, 0, 0] := by decide
theorem test_decode_unknown : decodeFrame .line [0x63, 0] = .unknownRequest .line 0x63 [0] := by decide
theorem test_decode_ignored : decodeFrame .set [0xFF, 2, 1, 0, 0] = .ignoredFrame .set [0xFF, 2, 1, 0, 0] := by decide
theorem test_decode_fetch : decodeTransaction [0xA5, 0, 0, 0] = .fetch .line 2 := by decide
/-- R166: a transaction that ends three bits into a byte discards them. -/
theorem test_decode_cut_byte :
    decodeBits ([false, true, false, true, true, false, true, false] ++ [true, true, true, true, true, true, true, true] ++
      [true, false, true]) = .ignoredFrame .line [0xFF] := by decide
theorem test_decode_direction_33 : decodeTransaction [0x33] = .ignoredTransaction [0x33] := by decide

/-- R167: a write transfer carries a frame, with no direction byte; a read transfer of four bytes clocks out three after the
port state byte. -/
theorem test_decode_transfers :
    decodeTransfer (.write 0x3C [0x02, 2, 9, 0, 0]) = .readStatus .set [2, 9, 0, 0] ∧
      decodeTransfer (.read 0x3C 4) = .fetch .set 3 := by decide

/-- R167: a part in STARTING, and one whose port waits, acknowledges its address and both bytes; another address is not. -/
theorem test_acknowledgements :
    let busy : State := { ready with setPort := { ready.setPort with phase := .pending } }
    State.reset.acknowledgements (.write 0x3C [0x1B, 0]) = [true, true, true] ∧
      busy.acknowledgements (.write 0x3C [0x1B, 0]) = [true, true, true] ∧
      ready.acknowledgements (.write 0x3D [0x1B]) = [false, false] ∧ ready.transferCommand? (.read 0x3D 2) = none := by
  decide

/-! ## The spec's worked cases -/

/-- 1.7: 61 columns, 35 rows, 2,135 knots, 6,405 triples. -/
theorem test_worked_descriptor :
    let d : Descriptor := { width := 3840, height := 2160, exponent := 6, levels := [64, 512, 940] }
    (d.columns, d.rows, d.knots, d.triples) = (61, 35, 2135, 6405) := by decide

/-- 1.5: the fill of a knot with one retired neighbour. -/
theorem test_worked_fill : fillGrid.fill small 0 1 1 = ⟨58, -30, 5⟩ := by decide

/-- 1.5: a corner with a halfway mean. -/
theorem test_worked_mean : meanTrim [-3, 0] = -1 := by decide

/-- 2.2: the level step of the pixel (1000, 530), and a tie. -/
theorem test_worked_level :
    levelTrim (fun p => if p = 1 then 123 else 287) 700 0 [64, 512, 940] = 195 ∧
      levelTrim (fun p => if p = 0 then 10 else -10) 201 0 [200, 208] = 8 := by decide

/-- 2.2: plane 1's bilinear step of the pixel (1000, 530). -/
theorem test_worked_bilinear :
    bilinear { width := 3840, height := 2160, exponent := 6, levels := [64, 512, 940] }
      (fun i j => if i = 15 then (if j = 8 then 400 else 1000) else (if j = 8 then -200 else 0)) 1000 530 = 123 := by
  decide

/-- 4.5: the first reading of the channel, k = 192 and step limit 2048. -/
theorem test_worked_reading :
    let l : LoopParameters := { coefficient := 192, stepLimit := 2048, tolerance := 10, settleCount := 3 }
    targetTrim 0 { luminance := 36000, target := 40000 } = (3641, false) ∧ newTrim l 0 3641 = 2048 ∧
      newTrim l 2048 2471 = 2365 ∧ newHits l 0 { luminance := 36000, target := 40000 } = 0 ∧
      newHits l 0 { luminance := 39900, target := 40000 } = 1 := by decide

/-- 4.5: limits and ties. -/
theorem test_worked_limits :
    let l : LoopParameters := { coefficient := 128, stepLimit := 1024, tolerance := 8, settleCount := 3 }
    targetTrim (-8000) { luminance := 45000, target := 30000 } = (-8192, true) ∧ newTrim l 7000 8191 = 7596 ∧
      newTrim l 5 4 = 5 := by decide

/-- R128: a check value of an implementation. -/
theorem test_worked_check : checkValue [0x31, 0x32, 0x33, 0x34, 0x35, 0x36, 0x37, 0x38, 0x39] = 0xCBF43926 := by
  decide +kernel

/-- 10.5: a fetch cut short after three response bytes, with the mark set. -/
theorem test_worked_short_fetch :
    let q : Port := { ready.linePort with phase := .ready, ignored := true, slot := some ⟨.ok, 7, [1, 2]⟩ }
    (after (.fetch .line 3) { ready with linePort := q }).linePort = { q with driven := [6, 0, 7, 2] } := by decide

/-- R166: LSDO in a fetch of a READY port (its mark clear), and in a request. -/
theorem test_lsdo :
    let s : State := ready.answered .line 7 .ok [0x55]
    (List.range 8).map (s.lsdo 0xA5) = [0, 2, 0, 7, 1, 0, 0x55, 0].map some ∧ s.lsdo 0x5A 3 = some 0 := by decide

/-- 11.3: Read Attention reports STORE and lets the line rise. -/
theorem test_worked_attention :
    let s : State := { ready with attention := { ready.attention with lineFlags := 0x200, lineMask := 0x4FF } }
    s.alertLow .line = true ∧ (after (.readAttention .line (frameOf 2 1 [])) s).alertLow .line = false := by decide

/-! ## Witnesses: a state and operands that meet the hypotheses of each statement, clause by clause -/

/-- The part that saves. -/
def saving : State := gridded.beginSave

/-- The part while Ship runs. -/
def shipping : State := { saving with modes := { saving.modes with shipping := true } }

/-- The Line Port waits. -/
def waiting : State := { gridded with linePort := { gridded.linePort with phase := .pending } }

/-- RESET_N is held asserted. -/
def heldInReset : State := after .resetLineAsserted ready

/-- No supply. -/
def dark : State := after .supplyLost ready

theorem witness_CommandsKeepTheQueueAndComplete :
    wellFormed .powerOnReset = true ∧ wellFormed (.ignoredFrame .line [0x01]) = false := by decide

theorem witness_FramesAndCommandsAgree :
    wellFormed (.readStatus .line [2, 9, 0, 0]) = true ∧
      frameBytes (.readStatus .line [2, 9, 0, 0]) = some [0x02, 2, 9, 0, 0] ∧
      framePort (.readStatus .line [2, 9, 0, 0]) = some .line := by decide

theorem witness_UntakenFramesLeaveTheirMarks :
    ignoredOutright [] = true ∧ ignoredOutright [0x00, 2] = true ∧ ignoredDirection [0x33] = true ∧
      heldInReset.deaf = true ∧ dark.deaf = true ∧
      waiting.deaf = false ∧ (waiting.port .line).phase = .pending ∧ neverRequest 0x1B = false ∧
      (0x5A : Byte) ≠ 0xA5 ∧ [true].length < 8 := by decide

theorem witness_UnsoundFramesAnswerBadLength :
    ready.listens .line ∧ neverRequest 0x41 = false ∧ ([1, 2, 0] : List Byte).length < 4 ∧
      (256 < (1 : Byte).toNat + 256 * (1 : Byte).toNat) ∧
      ([] : List Byte).length ≠ (1 : Byte).toNat + 256 * (0 : Byte).toNat ∧
      (⟨0x41, 2, some 2⟩ : RequestRow) ∈ requestRows ++ [⟨0x50, 1, some 4⟩, ⟨0x53, 1, some 1⟩] ∧
      ([1] : List Byte).length ≠ 2 ∧ ([1] : List Byte).length ≤ 256 ∧ neverRequest 0x63 = false ∧
      assignedCodes.contains (0x63 : Byte).toNat = false := by decide

theorem witness_StartingAndPrivilegeRefuse :
    (State.reset.listens .line ∧ (⟨0x1A, 2, some 1⟩ : RequestRow) ∈ requestRows ∧
      State.reset.store.startUp ≠ .ready ∧ 2 < (0x1A : Byte).toNat ∧ ([1] : List Byte).length = 1) ∧
    (ready.listens .line ∧ (⟨0x60, 1, some 0⟩ : RequestRow) ∈ requestRows ∧ ready.store.startUp = .ready ∧
      1 < max (2 : Byte).toNat (floor ready.modes.mode .line) ∧ ([3, 0, 16, 0] : List Byte).length = 4) ∧
    ((0x02 : Byte).toNat ≤ 2 ∧ 2 < max (3 : Byte).toNat (floor State.reset.modes.mode .line)) ∧
    (0 < max (0 : Byte).toNat (floor ready.modes.mode .set) ∧ (loading .service []).store.startUp = .ready ∧
      (loading .service []).creds.slots[(3 : Fin 16)] = .loading .service 32 []) := by decide

theorem witness_SetPortReachesLevelTwoOnly :
    (∃ row ∈ requestRows, row.code = (0x10 : Byte).toNat ∧ row.level < 2) ∧
      (0x53 : Byte).toNat ∈ [0x50, 0x51, 0x52, 0x53] := by decide

theorem witness_ShippingIndicatorRefusesChanges :
    (⟨0x13, 1, none⟩ : RequestRow) ∈ requestRows ∧ shipping.admits .line 0 1 ∧ shipping.modes.shipping = true := by
  decide

theorem witness_FetchSendsAndConsumesTheResponse :
    let s : State := ready.answered .line 7 .ok [1, 2]
    s.deaf = false ∧ (s.port .line).phase = .ready ∧ (s.port .line).slot = some ⟨.ok, 7, [1, 2]⟩ ∧
      (u8 Status.ok.code ++ [(7 : Byte)] ++ u16 2 ++ [1, 2]).length ≤ 6 ∧
      5 < (u8 Status.ok.code ++ [(7 : Byte)] ++ u16 2 ++ [1, 2]).length ∧ (ready.port .line).phase ≠ .ready := by decide

theorem witness_IdentityAndStatusAreReported :
    State.reset.listens .line ∧ State.reset.effectiveLevel .line 0 ≤ 2 ∧ shipped.listens .set ∧
      shipped.effectiveLevel .set 2 ≤ 2 := by decide

theorem witness_AttentionIsReadAndMasked : ready.admits .set 2 2 ∧ 2048 ≤ 2048 ∧ 2048 < 65536 := by decide

theorem witness_FlagsAreClearedByReadingOrReset :
    exec .inputAppears ready = .next (after .inputAppears ready) ∧ isResetEvent .inputAppears = false ∧
      readsAttention .line .inputAppears = false := ⟨rfl, rfl, rfl⟩

theorem witness_ResetsRestoreResetValues :
    (ready.admits .line 0 2 ∧ ready.store.write = .idle ∧ ready.modes.shipping = false) ∧
      (saving.admits .line 0 2 ∧ saving.store.write ≠ .idle) ∧
      (ready.pins.supply = true ∧ ready.pins.resetAsserted = false) ∧
      (heldInReset.pins.supply = true ∧ heldInReset.pins.resetAsserted = true) := by decide

/-- R167: ADSEL low gives 0x3C, in STARTING as while the port waits, and nothing is acknowledged under RESET_N. -/
theorem witness_acknowledges :
    State.reset.acknowledges 0x3C = true ∧ State.reset.acknowledges 0x3D = false ∧ heldInReset.acknowledges 0x3C = false ∧
      ({ ready with setPort := { ready.setPort with phase := .pending } } : State).acknowledges 0x3C = true ∧
      (after .powerOnReset { dark with pins := { dark.pins with adselHigh := true } }).acknowledges 0x3D = true ∧
      isResetEvent .inputAppears = false ∧ State.reset.pins.supply = true ∧ State.reset.pins.resetAsserted = false ∧
      (SetTransfer.read 0x3D 1).address ≠ ready.pins.address ∧ heldInReset.pins.resetAsserted = true ∧
      dark.pins.supply = false := by decide

theorem witness_DefineGridBuildsAnUnsetGridOrRefuses :
    ready.admits .line 0 1 ∧ ready.saveRuns = false ∧ ready.modes.shipping = false ∧ small.sound ∧
      saving.admits .line 0 1 ∧ saving.saveRuns = true ∧
      ¬ (640 ≤ 639 ∧ 639 ≤ 7680) ∧ ¬ [5, 5].Pairwise (· < ·) ∧
      131072 < ({ width := 7680, height := 4320, exponent := 5, levels := [1, 2, 3, 4, 5] } : Descriptor).columns *
        ({ width := 7680, height := 4320, exponent := 5, levels := [1, 2, 3, 4, 5] } : Descriptor).rows * 5 ∧
      ([2, 0, 0, 0, 8] : List Byte).length < 6 ∧ ([5] : List Byte).length ≠ 2 * 1 := by decide

theorem witness_GridIsReported :
    ready.admits .set 2 2 ∧ ready.grid.descriptor = none ∧ gridded.admits .set 2 2 ∧
      gridded.grid.descriptor = some small ∧ small.sound ∧ 1 < small.planes ∧ 2 < small.rows ∧ 0 + 4 ≤ small.columns := by
  decide

/-- R19's refusals: no grid; a count of 13; plane 2 of two; row 3 of three; a run past the last column. -/
theorem witness_ReadKnotsRefusals :
    (ready.admits .set 2 2 ∧ ready.grid.descriptor = none) ∧ ¬ ((1 ≤ 13 ∧ 13 ≤ 12) ∧ 1 < small.planes) ∧
      ¬ ((1 ≤ 1 ∧ 1 ≤ 12) ∧ 2 < small.planes) ∧ ((1 ≤ 12 ∧ 12 ≤ 12) ∧ 1 < small.planes) ∧
      ¬ (3 < small.rows ∧ 0 + 1 ≤ small.columns) ∧ ¬ (2 < small.rows ∧ 3 + 2 ≤ small.columns) := by decide

theorem witness_WriteKnotsPlacesARun :
    gridded.admits .line 0 1 ∧ gridded.modes.shipping = false ∧ gridded.grid.descriptor = some small ∧
      someChannel ⟨true, false, true⟩ ∧ gridded.queue.entries.length + 1 ≤ 256 ∧ 3 + 1 ≤ small.columns ∧
      everyChannel (fun x : Int => -32768 ≤ x ∧ x ≤ 32767) ⟨-32768, 0, 32767⟩ := by decide

/-- R54's refusals: no grid; a count of 0; a byte too many; a run past the last column; a full queue. -/
theorem witness_WriteKnotsRefusals :
    let full : State := { gridded with queue := { gridded.queue with entries := List.replicate 256 (.retire 0 0) } }
    (ready.admits .line 0 1 ∧ ready.grid.descriptor = none) ∧ ¬ (1 ≤ 0 ∧ 0 ≤ 16) ∧
      ([1, 0, 0] : List Byte).length ≠ 2 * (1 * ((List.range 3).filter (1 : Nat).testBit).length) ∧
      ([1, 0] : List Byte).length = 2 * (1 * ((List.range 3).filter (1 : Nat).testBit).length) ∧
      ¬ (2 < small.rows ∧ 4 + 1 ≤ small.columns) ∧ (2 < small.rows ∧ 3 + 1 ≤ small.columns) ∧
      (full.admits .line 0 1 ∧ 256 < full.queue.entries.length + 1) := by decide +kernel

theorem witness_AdjustKnotPlacesAnEntryAndWaits :
    let full : State := { gridded with queue := { gridded.queue with entries := List.replicate 256 (.retire 0 0) } }
    (gridded.admits .line 0 1 ∧ gridded.queue.hold = .released ∧ gridded.queue.entries.length < 256 ∧
      everyChannel (fun x : Int => -16383 ≤ x ∧ x ≤ 16383) ⟨-16383, 0, 16383⟩) ∧
      (gridded.withHold .held).queue.hold ≠ .released ∧
      (full.admits .line 0 1 ∧ full.queue.hold = .released ∧ 256 ≤ full.queue.entries.length) := by decide +kernel

/-- R56's refusals: no grid; four bytes; plane 2 of two; a channel set of 8; a delta of 16384; a delta too few and a byte too
many; column 4 of four. -/
theorem witness_AdjustKnotRefusals :
    (ready.admits .line 0 1 ∧ ready.grid.descriptor = none) ∧ ([0, 0, 0, 0] : List Byte).length ≤ 4 ∧
      small.planes ≤ 2 ∧ 1 < small.planes ∧ 7 < 8 ∧ (1 ≤ 5 ∧ 5 ≤ 7) ∧
      ((List.range 3).filter (5 : Nat).testBit).length = 2 ∧ (∀ x ∈ [(-16383 : Int), 16383], -16383 ≤ x ∧ x ≤ 16383) ∧
      [(0 : Int)].length < 2 ∧ (16383 : Int) < 16384 ∧ ([9] : List Byte) ≠ [] ∧ ¬ (4 < small.columns ∧ 2 < small.rows) := by
  decide

theorem witness_AreaAndKnotRequestsPlaceAnEntry :
    gridded.admits .line 0 1 ∧ gridded.grid.descriptor = some small ∧ 3 < small.columns ∧ 2 < small.rows ∧
      (3 : BitVec 8) ≠ 0 ∧ (3 : BitVec 8).toNat < 2 ^ small.planes ∧ small.columns ≤ 4 := by decide

/-- The refusals of R59 and R60: no grid; plane set 4 of two planes; corners the wrong way round; a corner outside the grid; a
full queue. -/
theorem witness_AreaAndKnotRefusals :
    let full : State := { gridded with queue := { gridded.queue with entries := List.replicate 256 (.retire 0 0) } }
    (ready.admits .line 0 1 ∧ ready.grid.descriptor = none) ∧ ¬ (4 < 2 ^ small.planes) ∧ ¬ (2 ≤ 1) ∧
      ((3 ≠ 0 ∧ 3 < 2 ^ small.planes) ∧ 0 ≤ 3 ∧ 0 ≤ 2) ∧ ¬ (4 < small.columns ∧ 2 < small.rows) ∧
      (3 < small.columns ∧ 2 < small.rows) ∧ (full.admits .line 0 1 ∧ 256 ≤ full.queue.entries.length) := by decide +kernel

theorem witness_HoldRequestsMoveTheHoldState :
    gridded.admits .line 0 1 ∧ gridded.modes.shipping = false ∧ gridded.queue.hold = .released ∧
      (gridded.withHold .stepPending).queue.hold = .stepPending ∧ (gridded.withHold .held).queue.hold ≠ .released := by
  decide

theorem witness_SetBypassFollowsTheLevel :
    gridded.admits .line 1 2 ∧ gridded.effectiveLevel .line 1 ≤ 1 ∧ gridded.admits .set 0 2 ∧
      ¬ gridded.effectiveLevel .set 0 ≤ 1 ∧ 2 ≤ (2 : Byte).toNat := by decide

theorem witness_DirectEntriesChangeTheirRecord :
    gridded.grid.records[recordPlace small 1 2 3]? = some KnotRecord.fresh ∧ KnotRecord.fresh.state ≠ .pinned ∧
      KnotRecord.fresh.state ≠ .retired ∧
      fillGrid.records[recordPlace small 0 1 2]?.map (·.state) = some .pinned ∧
      fillGrid.records[recordPlace small 0 0 1]?.map (·.state) = some .retired := by decide

theorem witness_AreaEntriesPinAndUnpin :
    fillGrid.records.length = small.triples ∧ 3 < small.columns ∧ 2 < small.rows ∧
      fillGrid.records[recordPlace small 0 1 2]?.map (·.state) = some .pinned := by decide

theorem witness_KnotEntriesRetireAndRestore :
    ([-3, 0] : List Int) ≠ [] ∧ fillGrid.records.length = small.triples ∧ 1 < small.columns ∧ 1 < small.rows ∧
      fillGrid.records[recordPlace small 0 1 1]? = some KnotRecord.fresh := by decide

theorem witness_RecordsChangeOnlyAtFrameStarts :
    exec .examineReading gridded = .next gridded ∧ mayChangeRecords .examineReading = false := ⟨rfl, rfl⟩

/-- The part with a WRITE entry that waits. -/
def queued : State := gridded.place [.write 1 1 0 ⟨some 100, none, none⟩]

theorem witness_FrameStartAppliesUnlessSuspended :
    queued.frameStartDue .internal ∧ queued.queue.hold ≠ .held ∧ queued.queue.guard = .stopped ∧
      queued.saveRuns = false ∧ queued.queue.entries ≠ [] ∧ queued.grid.descriptor = some small ∧
      (queued.withHold .held).frameStartDue .internal ∧
      ({ queued with detector := { queued.detector with guardTime := 100 } } : State).queue.guard ≠ .running 82 ∧
      82 + queued.comingStep < 100 ∧ saving.frameStartDue .internal ∧ saving.saveRuns = true ∧
      gridded.queue.entries = [] ∧ watching.frameStartDue (.input marked) := by decide

theorem witness_judged_grid : gridded.grid.shapeSound ∧ gridded.grid.countsSound :=
  ⟨⟨(fun h => nomatch h), fun d h => by cases h; decide⟩, ⟨(fun h => nomatch h), fun d h => by cases h; decide⟩⟩

theorem witness_FrameStartSettlesFamilyAndStep :
    let s : State := { regional .stored with regions := { (regional .stored).regions with selection := some 2 } }
    s.frameStartDue .internal ∧ s.regions.profiles[(2 : Fin 8)] = .held .stored uk ∧ gridded.regions.selection = none := by
  decide

theorem witness_FrameStartLatchesTheSettings :
    State.reset.frameStartDue .internal ∧ State.reset.store.startUp ≠ .ready ∧ gridded.frameStartDue .internal ∧
      gridded.store.startUp = .ready ∧ watching.frameStartDue (.input marked) := by decide

theorem witness_SightingsNameTheFramesPattern :
    markerPattern? marked.line0 = some flat64 ∧ watching.timing.frame = some showing ∧ showing.cutOff = false ∧
      showing.content = .input marked := by decide

theorem witness_FrameStartJudgesTheSighting :
    watching.frameStartDue (.input marked) ∧ watching.book.judgement = .notTaken ∧
      watching.generator.effective = watching.generator.requested ∧ watching.timing.frame = some showing ∧
      showing.begunReady = true ∧ holding.frameStartDue .internal ∧
      holding.detector.state = .held flat64 .external 1 := by decide

/-- The part whose frame shows `flat64`, with a settle time of 0; the detector's state and the judgement as given. -/
def switching (j : Judgement) (d : Detection) : State :=
  { watching with
    detector := { state := d, settleTime := 0, guardTime := 40 }
    book := { watching.book with judgement := j } }

/-- After a HOLDING_START (the judgement taken) and after a HOLDING_END that left a start, a frame start is due. -/
theorem witness_FrameStartAfterReports :
    let ended := after .holdingEnd (switching .notTaken (.held { flat64 with tag := 2 } .external 0))
    let started := after .holdingStart ended
    (ended.book.judgement = .endTaken ∧ ended.detector.state = .settling flat64 .external 0 ∧
      ended.frameStartDue (.input marked)) ∧
    (started.book.judgement = .taken ∧ started.detector.state = .held flat64 .external 1 ∧
      started.frameStartDue (.input marked) ∧ started.generator.effective = started.generator.requested) := by decide

theorem witness_InputEventsJudgeTheInput :
    watching.pins.signal = true ∧ watching.pins.supply = true ∧ watching.generator.effective = .external ∧
      marked.wellFormed = true ∧ watching.followsInput = true ∧
      ({ watching with generator := { watching.generator with effective := .internal } } : State).followsInput = false := by
  decide

theorem witness_GuardAndGapTimersRunAndExpire :
    let s : State :=
      { loading .content [] with
        queue := { ready.queue with guard := .running 83 }
        detector := { ready.detector with guardTime := 100 }
        creds := { (loading .content []).creds with loading := some { slot := 3, gap := 1983 } } }
    s.pins.supply = true ∧ s.book.guardFresh = false ∧ s.detector.guardTime ≤ 83 + s.comingStep ∧
      2000 ≤ 1983 + s.comingStep ∧ s.frameStartDue .internal ∧ (loading .content []).frameStartDue .internal ∧
      (loading .content []).creds.loading = some { slot := 3, gap := 0 } ∧ 82 + s.comingStep < s.detector.guardTime ∧
      1982 + s.comingStep < 2000 ∧ ready.queue.guard = .stopped ∧ ready.creds.loading = none ∧
      (after (.frameStart .internal) s).detector.state = s.detector.state ∧
      (after .holdingStart { watching with
        detector := { watching.detector with settleTime := 0, guardTime := 50, state := .settling flat64 .external 0 } }).book.guardFresh =
          true := by decide

theorem witness_HoldingStartsAndEnds :
    let settling : State := { watching with detector := { watching.detector with state := .settling flat64 .external 83 } }
    let other : State := { watching with detector := { watching.detector with
      state := .held { flat64 with tag := 2 } .external 1 } }
    (settling.pins.supply = true ∧ settling.book.judgement = .notTaken ∧
      settling.generator.effective = settling.generator.requested ∧ settling.sighting = some (flat64, .external) ∧
      settling.detector.settleTime ≤ 83 + showing.step) ∧
    (other.sighting = some (flat64, .external) ∧ flat64 ≠ { flat64 with tag := 2 }) ∧
    ({ holding with generator := { holding.generator with requested := .internal } } : State).generator.effective ≠
      .internal := by decide

/-- A new candidate under a settle time of 0, from NONE and from another candidate; the start an ending has left; and events
that are not due: an end without a held pattern, an end of the pattern still shown, a second start. -/
theorem witness_HoldingStartsAtOnce :
    (watching.sighting = some (flat64, .external) ∧ (switching .notTaken .none).detector.settleTime = 0 ∧
      (switching .notTaken .none).timing.frame = some showing) ∧
    flat64 ≠ { flat64 with tag := 2 } ∧
    ((switching .endTaken (.settling flat64 .external 0)).book.judgement = .endTaken ∧
      (switching .endTaken (.settling flat64 .external 0)).pins.supply = true) ∧
    (∀ f, gridded.timing.frame = some f → f.begunReady = false) ∧ dark.pins.supply = false ∧
    (watching.detector.settleTime ≠ 0 ∧ 0 + showing.step < watching.detector.settleTime ∧
      watching.detector.state = .none ∧ gridded.sighting = none) :=
  ⟨by decide, by decide, by decide, (fun _ h => nomatch h), by decide, by decide⟩

theorem witness_TargetTrimsAndHitsAreComputed :
    (0 : Int) < 256 ∧ ready.conv.parameters.inRange ∧ (0 : Nat) < 65535 ∧ (15 : Nat) ≤ 15 := by decide

theorem witness_NewTrimStaysBetweenTrimAndTarget :
    ready.conv.parameters.inRange ∧ trimInRange (-8192) ∧ trimInRange 8191 ∧ trimInRange 0 ∧ 0 < 40001 ∧
      targetTrim 0 { luminance := 40001, target := 40000 } = (0 - 1, false) := by decide

theorem witness_EntriesTouchTheirRecords :
    (Entry.pinArea 0 0 3 2 3).touches 3 2 1 = true ∧
      gridded.grid.records[recordPlace small 1 2 3]? = some KnotRecord.fresh := by decide

theorem witness_ConvergenceSettingsAreSetAndRead :
    gridded.admits .line 0 1 ∧ gridded.modes.shipping = false ∧ gridded.grid.descriptor = some small ∧
      (1 : Fin 8).val < small.planes ∧ ready.admits .line 0 1 ∧ ready.grid.descriptor = none ∧
      (List.replicate 7 (0 : Byte)).length = 7 ∧ small.planes ≤ 2 ∧ (List.replicate 6 (0 : Byte)).length = 6 := by decide

theorem witness_SubmitReadingsJoinTheQueue :
    holding.admits .line 0 1 ∧ holding.modes.shipping = false ∧ holding.grid.descriptor = some small ∧
      (0 : Fin 8).val < small.planes ∧ holding.detector.state = .held flat64 .external 1 ∧ flat64.tag < 256 ∧
      flat64.kind = .flat ∧ small.levels[(0 : Fin 8).val]? = some flat64.level ∧
      holding.conv.targets[(0 : Fin 8)].r ≠ 0 ∧ 3 < small.columns ∧ 2 < small.rows := by decide

/-- R69's refusals: no grid; plane 2 of two; a channel set of 8; a stale tag; the level of the other plane; a channel outside
the held pattern; a target not set; a knot outside the grid; a full Measurement Queue. -/
theorem witness_SubmitReadingsRefusals :
    let other : Pattern := { flat64 with channels := ⟨true, false, false⟩ }
    let full : State := { holding with
      conv := { holding.conv with
        readings := List.replicate 64 { column := 0, row := 0, plane := 0, values := ⟨none, none, none⟩, intake := 0 } } }
    (ready.admits .line 0 1 ∧ ready.grid.descriptor = none) ∧ small.planes ≤ 2 ∧ 7 < 8 ∧ flat64.tag ≠ 2 ∧
      small.levels[(1 : Fin 8).val]? ≠ some flat64.level ∧ other.channels.g = false ∧
      gridded.conv.targets[(0 : Fin 8)].g = 0 ∧ ¬ (4 < small.columns ∧ 2 < small.rows) ∧
      (full.admits .line 0 1 ∧ full.detector.state = .held flat64 .external 1 ∧
        64 < full.conv.readings.length + 1) := by decide +kernel

/-- A reading of knot (1, 1) on plane 0, red only. -/
def redReading : Reading :=
  { column := 1, row := 1, plane := 0, values := ⟨some { luminance := 36000, target := 40000 }, none, none⟩, intake := 0 }

/-- The part with that reading queued. -/
def measured : State := { gridded with conv := { gridded.conv with readings := [redReading] } }

theorem witness_ExaminationEndsTheHeadReading :
    measured.pins.supply = true ∧ measured.queue.entries.length < 256 ∧ measured.grid.descriptor = some small ∧
      measured.grid.records[recordPlace small 0 1 1]? = some KnotRecord.fresh ∧ gridded.conv.readings = [] ∧
      (Entry.retire 1 1).touches 1 1 0 = true := by decide

theorem witness_PatternRequestsSetSourcePatternAndTimes :
    gridded.admits .line 0 1 ∧ gridded.modes.shipping = false ∧ someChannel ⟨false, false, true⟩ ∧ 1023 < 1024 ∧
      1 < 2 ∧ 7 < 8 ∧ (8 : Nat) < 256 := by decide

theorem witness_RegionRequestsChangeProfiles :
    (regional .stored).admits .line 0 0 ∧ (regional .stored).saveRuns = false ∧
      (regional .stored).regions.selection ≠ some 2 ∧ (regional .stored).regions.profiles[(2 : Fin 8)] = .held .stored uk ∧
      (regional .stored).regions.profiles[(0 : Fin 8)] = .empty ∧
      (∀ j : Fin 8, j < 2 → (regional .stored).regions.profiles[j] = .empty) := by decide

/-- The refusals of R117, R119, R121 and R122: out of range, while a save runs, and by the profile's state. -/
theorem witness_RegionRefusals :
    let pending : State := { regional .stored with regions := { (regional .stored).regions with selection := some 2 } }
    ready.admits .line 0 0 ∧ ready.admits .line 1 1 ∧ ¬ (8 ≤ 7) ∧ 999 < 1000 ∧
      (saving.admits .line 0 0 ∧ saving.saveRuns = true) ∧
      (regional .active).regions.profiles[(2 : Fin 8)] = .held .active uk ∧
      (pending.admits .line 0 0 ∧ pending.regions.selection = some 2 ∧
        pending.regions.profiles[(2 : Fin 8)] = .held .stored uk) ∧
      (regional .retired).regions.profiles[(2 : Fin 8)] = .held .retired uk ∧
      (regional .retired).regions.selection ≠ some 2 ∧
      ((0 : Fin 8) ≠ 2 ∧ (regional .stored).regions.profiles[(0 : Fin 8)] = .empty ∧ uk.code = 44) ∧
      (∀ j : Fin 8, ready.regions.profiles[j] = .empty) := by decide

theorem witness_RegionsAreSelectedAndReported :
    (regional .active).admits .line 0 2 ∧ (regional .active).effectiveLevel .line 0 ≤ 1 ∧
      (regional .active).regions.profiles[(2 : Fin 8)] = .held .active uk ∧
      (regional .retired).regions.profiles[(2 : Fin 8)] = .held .retired uk ∧
      (regional .stored).regions.profiles[(2 : Fin 8)] = .held .stored uk ∧
      (∀ j : Fin 8, j < 2 → (regional .active).regions.profiles[j] = .empty) ∧
      (∀ j : Fin 8, (ready.regions.profiles[j]) = .empty) ∧ 999 < 1000 := by decide

theorem witness_KeysAreLoadedInChunks :
    ready.admits .line 0 0 ∧ ready.store.write = .idle ∧ ready.modes.shipping = false ∧ lengthSound .service 32 ∧
      lengthSound .content 1024 ∧ ready.creds.loading = none ∧ ready.creds.slots[(3 : Fin 16)] = .empty ∧
      (∀ j : Fin 16, ready.creds.slots[j].class? ≠ some .service) ∧
      (loading .content []).admits .line 0 1 ∧
      (loading .content []).creds.slots[(3 : Fin 16)] = .loading .content 32 [] ∧ key.length = 32 := by decide

/-- The refusals of the loading requests (R130, R132, R134, R135): out of range, while a load or a save runs, a slot that is
not EMPTY or not LOADING, a second SERVICE slot. -/
theorem witness_LoadingRefusals :
    ready.admits .line 0 0 ∧ ready.admits .line 1 1 ∧ ¬ (16 ≤ 15) ∧ ¬ (33 % 16 = 0) ∧
      ((loading .content []).admits .line 0 0 ∧ (loading .content []).creds.loading ≠ none) ∧
      (saving.listens .line ∧ saving.store.startUp = .ready ∧ saving.effectiveLevel .line 0 = 0 ∧
        saving.store.write ≠ .idle) ∧
      (ready.effectiveLevel .line 1 ≤ 1 ∧ ready.creds.slots[(3 : Fin 16)].isLoading = false) ∧
      ((keyed (.loaded .service 32 key 7)).admits .line 0 0 ∧
        (keyed (.loaded .service 32 key 7)).creds.slots[(3 : Fin 16)] ≠ .empty ∧
        (keyed (.loaded .service 32 key 7)).modes.mode ≠ .service ∧
        (keyed (.loaded .service 32 key 7)).creds.slots[(4 : Fin 16)] = .empty ∧
        (keyed (.loaded .service 32 key 7)).creds.slots[(3 : Fin 16)].class? = some .service) ∧
      (([3] : List Byte).length ≠ 2 ∧ ([3, 2] : List Byte)[1]? = some 2) := by decide

theorem witness_LoadsEndOrAbort :
    (loading .content key).admits .line 0 1 ∧ (loading .content key).store.write = .idle ∧
      (loading .content key).creds.slots[(3 : Fin 16)] = .loading .content 32 key ∧ key.length = 32 ∧
      (loading .content []).creds.slots[(3 : Fin 16)] = .loading .content 32 [] ∧ checkValue key ≠ 0 := by
  decide +kernel

theorem witness_SlotsAreReadDeliveredAndErased :
    let s : State := { regional .active with
      modes := shipped.modes, creds := (keyed (.bound .content 32 key 7)).creds }
    s.admits .set 2 2 ∧ s.creds.slots[(3 : Fin 16)] = .bound .content 32 key 7 ∧ s.modes.mode ≠ .factory ∧
      s.regions.active? = some uk ∧ uk.allowsContent = true ∧ uk.allowsPlatform = false ∧ 31 < 32 ∧
      (keyed (.loaded .content 32 key 7)).admits .line 0 2 ∧ ready.effectiveLevel .line 0 ≤ 1 ∧
      ready.creds.slots[(3 : Fin 16)] = .empty := by decide

/-- R138's refusals: FACTORY mode, a slot that is not BOUND, no ACTIVE profile, a class not allowed, an offset past the end. -/
theorem witness_FetchKeyRefusals :
    let s : State := { regional .active with modes := shipped.modes, creds := (keyed (.bound .content 32 key 7)).creds }
    (ready.admits .set 2 2 ∧ ready.modes.mode = .factory) ∧ (s.admits .set 2 2 ∧ s.modes.mode ≠ .factory) ∧
      s.creds.slots[(4 : Fin 16)] = .empty ∧ s.creds.slots[(3 : Fin 16)] = .bound .content 32 key 7 ∧
      shipped.regions.active? = none ∧ s.regions.active? = some uk ∧
      ¬ (KeyClass.platform = .content ∨ uk.allowsPlatform = true) ∧ 32 ≤ 32 ∧ 15 < 16 ∧
      (saving.admits .line 0 2 ∧ saving.store.write ≠ .idle) := by decide

/-- The part with a LOADED content key in slot 3, and an image that holds it. -/
def kept : State :=
  let s := keyed (.loaded .content 32 key 7)
  { s with store := { s.store with image := .complete s.contents } }

theorem witness_RevocationsReachTheImage :
    (kept.admits .set 2 2 ∧ kept.store.write = .idle ∧ kept.modes.shipping = false ∧
      kept.creds.slots[(3 : Fin 16)] = .loaded .content 32 key 7 ∧
      kept.store.image.contents?.map (fun x => x.slots[(3 : Fin 16)]) = some (.loaded .content 32 key 7)) ∧
    (keyed (.loaded .content 32 key 7)).store.image.contents? = none ∧
    ((after (.revokeSlot .set (frameOf 2 1 [3])) kept).store.write = .revoking .set 3 ∧
      (after (.revokeSlot .set (frameOf 2 1 [3])) kept).creds.slots[(3 : Fin 16)] = .revoked .content 32 7) ∧
    (saving.admits .line 0 2 ∧ saving.store.write ≠ .idle) ∧
    (shipped.admits .set 2 2 ∧ shipped.creds.slots[(3 : Fin 16)].class? = some .service) ∧
    ready.creds.slots[(4 : Fin 16)] = .empty ∧ ready.store.write = .idle := by
  decide

/-- A key loaded since the last save: the image's entry is EMPTY (R140, log 16). -/
theorem witness_RevocationOfAnUnsavedKey :
    let s : State := { kept with store := { kept.store with image := .complete ready.contents } }
    s.admits .set 2 2 ∧ s.store.write = .idle ∧ s.creds.slots[(3 : Fin 16)] = .loaded .content 32 key 7 ∧
      s.store.image.contents?.map (fun x => x.slots[(3 : Fin 16)]) = some .empty := by decide

theorem witness_SavesBeginAndComplete :
    gridded.admits .line 0 1 ∧ gridded.modes.shipping = false ∧ gridded.store.write = .idle ∧
      gridded.regions.selection = none ∧ saving.admits .line 0 1 ∧ saving.store.write ≠ .idle ∧
      saving.store.write = .saving gridded.contents := by decide

/-- A part that meets every condition of Ship when forced. -/
def shippable : State :=
  { regional .active with creds := { ready.creds with slots := ready.creds.slots.set 3 (.loaded .service 32 key 7) } }

theorem witness_ShipBindsSavesAndEnds :
    shippable.admits .line 0 1 ∧ shippable.modes.shipping = false ∧
      shippable.notReadyReason true = none ∧ shippable.notReadyReason false = some 9 ∧
      saving.store.write = .saving gridded.contents ∧ saving.modes.shipping = false ∧
      shipping.store.write = .saving gridded.contents ∧ shipping.modes.shipping = true ∧
      shipping.admits .line 0 1 ∧ 2 ≤ (2 : Byte).toNat ∧ (1 : Byte).toNat ≤ 1 := by decide

theorem witness_ReopenComparesTheToken :
    shipped.admits .line 2 2 ∧ shipped.modes.mode = .field ∧ key.length = 32 ∧
      shipped.creds.slots[(3 : Fin 16)] = .bound .service 32 key 0 ∧
      (∀ j : Fin 16, j ≠ 3 → shipped.creds.slots[j].class? ≠ some .service) ∧ shipped.modes.failures < 3 ∧
      ready.modes.mode ≠ .field ∧ shipped.admits .set 2 2 := by decide

theorem witness_StartUpLoadFollowsTheImage :
    State.reset.pins.supply = true ∧ State.reset.store.startUp = .loading ∧ State.reset.store.image = .blank := by decide

theorem witness_BilinearTrimLiesAmongItsKnots : 1 ≤ small.exponent ∧ trimInRange (-8192) ∧ 256 % 2 ^ 8 = 0 := by decide

theorem witness_PlanesCombineByTheInputCode :
    small.levels ≠ [] ∧ small.levels.Pairwise (· < ·) ∧ 64 < 65 ∧ 511 < 512 := by decide

theorem witness_OutputStaysUnderTheCeiling :
    let s : State := { gridded with engine := { gridded.engine with treatment := .corrected, latched := some small } }
    s.engine.treatment = .corrected ∧ s.engine.latched = some small ∧ trimInRange (s.grid.pixelTrim small .red 0 0 1023) := by
  decide

/-- A generated frame in progress. -/
def drawn : Frame :=
  { content := .generated, width := 640, height := 360, step := 17, begunReady := true, cutOff := false }

/-- The part while it shows `flat64` itself. -/
def drawing : State :=
  { gridded with
    generator := { effective := .internal, requested := .internal, stored := .test flat64, shown := some (.test flat64) }
    engine := { gridded.engine with treatment := .uncorrected, latched := some small }
    timing := { gridded.timing with frame := some drawn } }

theorem witness_output_cases :
    (drawing.pins.supply = true ∧ drawing.timing.frame = some drawn ∧ 639 < drawn.width ∧ 359 < drawn.height ∧
      drawn.width ≤ 640 ∧ drawn.cutOff = false ∧ drawn.content = .generated ∧
      drawing.engine.treatment ≠ .starting ∧ drawing.generator.shown = some (.test flat64)) ∧
    (dark.pins.supply = false ∧ gridded.timing.frame = none ∧
      (after .resetLineAsserted drawing).engine.treatment = .starting ∧
      flat64.channels.get .red = true ∧ flat64.kind = .flat) ∧
    (after (.frameStart .internal) gridded).timing.frame.map (·.content) = some .black ∧
    (after .inputLost watching).timing.frame.map (·.cutOff) = some true := by decide

/-- A sound state with a command at the front of its queue. -/
def sound : State := { gridded with pending := [.readSummary .line (frameOf 2 1 [])] }

theorem witness_step : step sound = .next (after (.readSummary .line (frameOf 2 1 [])) gridded) := rfl

theorem witness_contents (good : ImageContents → Prop) : sound.store.contentsSatisfy good :=
  ⟨(fun _ h => nomatch h), (fun _ h => nomatch h)⟩

theorem witness_QueuesAndTimersStayBounded : sound.queuesBounded ∧ sound.timersSound :=
  ⟨by decide, by decide, by decide, (fun _ _ _ h => nomatch h), (fun _ h => nomatch h), (fun _ h => nomatch h)⟩

theorem witness_TrimsStayInRange : sound.trimsSound :=
  ⟨by decide, (fun _ h => nomatch h), by decide, witness_contents _⟩

theorem witness_CollectionAndCountsStaySound :
    sound.gridSound ∧ sound.queuesWithinGrid ∧ sound.startSound ∧ sound.grid.countsSound :=
  ⟨⟨⟨(fun h => nomatch h), fun d h => by cases h; decide⟩, witness_contents _⟩,
    ⟨(fun _ h => nomatch h), (fun _ h => nomatch h)⟩, by decide,
    ⟨(fun h => nomatch h), fun d h => by cases h; decide⟩⟩

theorem witness_ModesStaySoundAndShipSetsTheFuse :
    sound.modesSound ∧ shipping.modes.fuse = false ∧ (after (.saveCompletion .ok) shipping).modes.fuse = true ∧
      shipped.modes.fuse = true := by decide

theorem witness_RegionsStaySoundAndCeilingsInRange : sound.regionsSound ∧ sound.ceilingsSound := by
  have e : ∀ i : Fin 8, sound.regions.profiles[i] = .empty := by decide
  refine ⟨⟨⟨?_, ?_, ?_⟩, (fun _ h => nomatch h), witness_contents _⟩, by decide, ?_, witness_contents _⟩
  · intro i st r h; rw [e i] at h; exact nomatch h
  · intro i j a b x y h; rw [e i] at h; exact nomatch h
  · intro i j x y h; rw [e i] at h; exact nomatch h
  · intro i st r h; rw [e i] at h; exact nomatch h

theorem witness_CredentialsStaySound : sound.credentialsSound ∧ sound.startSound := by
  have e : ∀ i : Fin 16, sound.creds.slots[i] = .empty := by decide
  refine ⟨⟨⟨?_, ?_⟩, ?_, (fun _ h => nomatch h), (fun _ _ h => nomatch h), witness_contents _⟩, by decide⟩
  · intro i; rw [e i]; trivial
  · intro i j h; rw [e i] at h; exact nomatch h
  · intro i
    rw [e i]
    exact ⟨(fun h => nomatch h), (fun ⟨_, h, _⟩ => nomatch h)⟩

theorem witness_DeferredRepliesKeepTheirPort : sound.repliesSound :=
  ⟨by decide, by decide, by decide, by decide, by decide, (fun _ _ h => nomatch h)⟩

/-! ## One step of some commands, with results read from the rules -/

/-- R57, R165: Adjust Knot waits, and the Hold Updates sent while it does is not taken (10.5). -/
theorem test_adjustKnot_waits :
    let s := after (.adjustKnot .line (frameOf 0 9 (u16 1 ++ u16 1 ++ u8 0 ++ u8 1 ++ s16 5))) gridded
    s.linePort.phase = .pending ∧ s.linePort.tag = 9 ∧ s.queue.entries = [.adjust 1 1 0 ⟨some 5, none, none⟩] ∧
      (after (.holdUpdates .line (frameOf 0 1 [])) s).linePort.ignored = true := by decide

/-- R55: a value of 9000 is saturated to 8191 and counted. -/
theorem test_writeKnots_saturates :
    let s := after (.writeKnots .line (frameOf 1 1 (u16 1 ++ u16 1 ++ u8 1 ++ u8 0 ++ u8 1 ++ s16 9000))) gridded
    s.queue.entries = [.write 1 1 0 ⟨some 8191, none, none⟩] ∧
      s.linePort.slot = some ⟨.ok, 1, [1, 1, 1, 0]⟩ := by decide

/-- R7, R12, R13: the write is applied at a frame start. -/
theorem test_frameStart_applies :
    let t := after (.frameStart .internal) queued
    t.grid.records[recordPlace small 0 1 1]?.map (·.trim) = some ⟨100, 0, 0⟩ ∧ t.queue.entries = [] ∧
      t.grid.counts.map (·.provisional) = [1, 0] ∧ t.store.dirty = true := by decide

/-- R49: the pending step is spent by an application. -/
theorem test_frameStart_spends_the_step :
    (after (.frameStart .internal) (queued.withHold .stepPending)).queue.hold = .held := by decide

/-- R111: F60's steps. -/
theorem test_frameStart_cadence :
    ((after (.frameStart .internal) gridded).timing.frame.map (·.step),
      (after (.frameStart .internal) gridded).timing.phase) = (some 17, 1) := by decide

/-- R83, R84, R86: a reading becomes a CONVERGE entry (t* = 3641, half of it is 1820.5, the step limit 1024). -/
theorem test_examineReading_processes :
    (after .examineReading measured).queue.entries =
      [.converge 1 1 0 ⟨1024, 0, 0⟩ ⟨0, 0, 0⟩ ⟨false, false, false⟩ .tracking] := by decide +kernel

/-- R76: a reading whose record a waiting entry touches is stale. -/
theorem test_examineReading_finds_stale :
    let t := after .examineReading (measured.place [.retire 1 1])
    t.conv.stale = 1 ∧ t.attention.setFlags = 4 := by decide

/-- R10: a retired knot is filled on every plane. -/
theorem test_retire_fills :
    let a := Application.apply small 7 { grid := fillGrid, dirty := false, reply := none } (.retire 1 1)
    a.grid.records[recordPlace small 0 1 1]?.map (·.trim) = some ⟨58, -30, 5⟩ ∧
      a.grid.records[recordPlace small 1 1 1]?.map (·.state) = some .retired := by decide

/-- R100, R103, R50: the candidate reaches the settle time at this frame start. -/
theorem test_frameStart_holds :
    let s : State := { watching with detector := { watching.detector with state := .settling flat64 .external 83 } }
    let t := after (.frameStart (.input marked)) s
    t.detector.state = .held flat64 .external 1 ∧ t.attention.lineFlags.getLsbD 0 = true := by decide

/-- R103, R50: the frame start takes the start that a HOLDING_END has left, with the guard from 0. -/
theorem test_frameStart_takes_the_start_left :
    let t := after (.frameStart (.input marked))
      (after .holdingEnd (switching .notTaken (.held { flat64 with tag := 2 } .external 0)))
    t.detector.state = .held flat64 .external 1 ∧ t.queue.guard = .running 0 := by decide

/-- R140: the image's entry of a key that the last save did not hold is REVOKED at once. -/
theorem test_revokeSlot_of_an_unsaved_key :
    let s : State := { kept with store := { kept.store with image := .complete ready.contents } }
    ((after (.revokeSlot .set (frameOf 2 1 [3])) s).store.image.contents?.map
      (fun x => x.slots[(3 : Fin 16)].isRevoked)) = some true := by decide

/-- R56: the order of the refusals: a plane the grid has not goes before the length, a knot outside it after. -/
theorem test_adjustKnot_refusal_order :
    let reply := fun payload => (after (.adjustKnot .line (frameOf 0 9 payload)) gridded).linePort.slot
    reply [9, 0, 9, 0, 2] = some ⟨.badValue, 9, []⟩ ∧ reply [9, 0, 9, 0, 1, 1, 5] = some ⟨.badLength, 9, []⟩ ∧
      reply [9, 0, 9, 0, 1, 1, 5, 0] = some ⟨.outOfGrid, 9, []⟩ := by decide

/-- R133: the load is abandoned at 2000 ms. -/
theorem test_gapExpiry_abandons :
    let s : State := { loading .content key with
      creds := { (loading .content key).creds with loading := some { slot := 3, gap := 1984 } } }
    (after .gapExpiry s).creds.slots[(3 : Fin 16)] = .empty ∧
      (after .gapExpiry { s with timing := { s.timing with phase := 2 } }).creds.slots[(3 : Fin 16)] = .empty := by
  decide

/-- R148: Ship binds, and the Line Port waits. -/
theorem test_ship_binds :
    let t := after (.ship .line (frameOf 0 5 [1])) shippable
    t.creds.slots[(3 : Fin 16)] = .bound .service 32 key 7 ∧ t.modes.boundByShip = [3] ∧
      t.linePort.phase = .pending ∧ t.store.image = .incomplete := by decide

/-- R151: a fault returns the slot to LOADED. -/
theorem test_ship_fault_returns :
    let t := after (.saveCompletion .fault) (after (.ship .line (frameOf 0 5 [1])) shippable)
    t.creds.slots[(3 : Fin 16)] = .loaded .service 32 key 7 ∧ t.modes.fuse = false ∧ t.store.dirty = true ∧
      t.linePort.slot = some ⟨.writeFault, 5, []⟩ := by decide

/-- R153: the right token reopens the set, a wrong one is counted. -/
theorem test_reopen :
    (after (.reopen .line (frameOf 2 1 key)) shipped).modes.mode = .service ∧
      (after (.reopen .line (frameOf 2 1 (List.replicate 32 0))) shipped).modes.failures = 1 := by decide

/-- R164: an INCOMPLETE image raises STORE attention. -/
theorem test_load_of_an_incomplete_image :
    let s : State := { State.reset with store := { State.reset.store with image := .incomplete } }
    (after .startUpLoadCompletion s).attention.lineFlags = 0x200 ∧
      (after .startUpLoadCompletion s).store.startUp = .ready := by decide

/-- R114, R115: loss of the input under an EXTERNAL source. -/
theorem test_inputLost_cuts_the_frame :
    let t := after .inputLost { watching with timing := { watching.timing with condition := .present } }
    t.timing.condition = .absent ∧ t.timing.frame.map (·.cutOff) = some true ∧
      t.attention.lineFlags.getLsbD 5 = true := by decide

/-- R27, R113: the rest of a generated frame is code 0 after a reset, in the size with which the frame began. -/
theorem test_reset_keeps_the_frames_size :
    let t := after (.reset .line (frameOf 0 1 []))
      { drawing with timing := { drawing.timing with frame := some { drawn with width := 7680, height := 4320 } } }
    (t.outputCode .red 7679 4319 0, t.outputCode .red 7680 0 0, t.engine.latched) = (some 0, none, none) := by decide

/-- R51: a guard of 40 ms adds F60's steps 17 and 17 and stops with 16. -/
theorem test_frameStart_guard :
    let s : State := { gridded with
      queue := { gridded.queue with guard := .running 0 }, detector := { gridded.detector with guardTime := 40 } }
    let t := after (.frameStart .internal) s
    t.queue.guard = .running 17 ∧
      (after (.frameStart .internal) { t with queue := { t.queue with guard := .running 34 } }).queue.guard = .stopped := by
  decide

/-- R57: the deferred reply carries the frame number and the trim before and after. -/
theorem test_adjustKnot_reply :
    let s := after (.adjustKnot .line (frameOf 0 9 (u16 1 ++ u16 1 ++ u8 0 ++ u8 1 ++ s16 5))) gridded
    (after (.frameStart .internal) s).linePort.slot = some ⟨.ok, 9, [1, 0, 0, 0, 0, 0, 5, 0]⟩ := by decide

/-- R162: a Reset request places no reply and leaves the part STARTING. -/
theorem test_reset_places_no_reply :
    let t := after (.reset .line (frameOf 0 1 [])) (ready.answered .line 4 .ok [])
    t.linePort.phase = .idle ∧ t.store.startUp = .loading := by decide

end Sys2Proof.Tests
end

section
/-! PROOFS. The correction grid: which records an entry touches (R6), and what a sweep of record changes makes of each
record, with the PIN_AREA and UNPIN_AREA entries (R9) as its use. -/

namespace Sys2Proof.Machine

open Sys2Proof

/-! ## Touching (R6) -/

theorem inRectangle_iff (c0 r0 c1 r1 column row : Nat) :
    inRectangle c0 r0 c1 r1 column row = true ↔ (c0 ≤ column ∧ column ≤ c1) ∧ (r0 ≤ row ∧ row ≤ r1) := by
  simp [inRectangle, and_assoc]

/-- The test of the entries that name one record (WRITE, ADJUST, CONVERGE). -/
theorem namesRecord_iff (c r p column row plane : Nat) :
    (c == column && r == row && p == plane) = true ↔ (c, r, p) = (column, row, plane) := by
  simp [and_assoc]

/-- The test of the entries that name a knot on every plane (RETIRE, RESTORE). -/
theorem namesKnot_iff (c r column row : Nat) : (c == column && r == row) = true ↔ (c, r) = (column, row) := by
  simp

/-- The test of the entries that name an area (PIN_AREA, UNPIN_AREA). -/
theorem namesArea_iff (c0 r0 c1 r1 : Nat) (ps : BitVec 8) (column row plane : Nat) :
    (inRectangle c0 r0 c1 r1 column row && planeIn ps plane) = true ↔
      (c0 ≤ column ∧ column ≤ c1) ∧ (r0 ≤ row ∧ row ≤ r1) ∧ ps.getLsbD plane = true := by
  rw [Bool.and_eq_true, inRectangle_iff, planeIn, and_assoc]

/-- A waiting entry that touches the reading's record makes the reading stale (R76). -/
theorem readingStale_of_touched {entries : List Entry} {q : Reading} (rec : KnotRecord)
    (h : ∃ e ∈ entries, e.touches q.column q.row q.plane = true) : readingStale entries rec q = true := by
  have touched : entries.any (fun e => e.touches q.column q.row q.plane) = true := List.any_eq_true.mpr h
  simp [readingStale, touched]

theorem UpdateQueue.pendingCount_eq_length (q : UpdateQueue) (column row plane : Nat) :
    q.pendingCount column row plane = (q.entries.filter (fun e => e.touches column row plane)).length :=
  List.countP_eq_length_filter

/-- Read Knots of a single knot reports its record (R19). -/
theorem knotsPayload_one {s : State} {d : Descriptor} {plane row column : Nat} {r : KnotRecord}
    (h : s.grid.records[d.index plane row column]? = some r) :
    knotsPayload s d plane row column 1 = recordPayload column r (s.queue.pendingCount column row plane) := by
  simp [knotsPayload, GridStore.record?, h]

/-- Settles O21: each kind of entry by the test its case of `touches` makes, and the two uses of the relation. -/
theorem entriesTouchTheirRecords : Obligations.EntriesTouchTheirRecords := by
  intro column row plane
  refine ⟨fun c r q _ => namesRecord_iff c r q _ _ _, fun c r q _ => namesRecord_iff c r q _ _ _,
    fun c r q _ _ _ _ => namesRecord_iff c r q _ _ _, fun c0 r0 c1 r1 ps => namesArea_iff c0 r0 c1 r1 ps _ _ _,
    fun c0 r0 c1 r1 ps => namesArea_iff c0 r0 c1 r1 ps _ _ _, fun c r => namesKnot_iff c r _ _,
    fun c r => namesKnot_iff c r _ _, ?stale, ?readKnots⟩
  case stale =>
    rintro entries r q rfl rfl rfl touched
    exact readingStale_of_touched r touched
  case readKnots =>
    intro s d r h
    rw [knotsPayload_one h, UpdateQueue.pendingCount_eq_length]

/-! ## A sweep of record changes -/

/-- A sweep whose steps leave a record leaves it. -/
theorem Application.fold_other {α : Type} {f : Application → α → Application} {l : List α} {i : Nat}
    (a : Application) (other : ∀ b, ∀ y ∈ l, (f b y).grid.records[i]? = b.grid.records[i]?) :
    (l.foldl f a).grid.records[i]? = a.grid.records[i]? :=
  Application.fold_keeps (fun b => b.grid.records[i]? = a.grid.records[i]?) l f
    (fun b y hy h => (other b y hy).trans h) a rfl

/-- A sweep that meets a record in one step only makes of it what that step makes of it: the step finds the record as the
sweep found it, and the sweep leaves it as the step did. -/
theorem Application.fold_at {α : Type} {f : Application → α → Application} {l : List α} {x : α} {i : Nat}
    (a : Application) (nodup : l.Nodup) (hx : x ∈ l)
    (other : ∀ b, ∀ y ∈ l, y ≠ x → (f b y).grid.records[i]? = b.grid.records[i]?) :
    ∃ before after, l = before ++ x :: after ∧
      (before.foldl f a).grid.records[i]? = a.grid.records[i]? ∧
      (l.foldl f a).grid.records[i]? = (f (before.foldl f a) x).grid.records[i]? := by
  obtain ⟨before, after, rfl⟩ := List.append_of_mem hx
  have fresh : x ∉ before ++ after := (List.nodup_cons.mp (List.nodup_middle.mp nodup)).1
  have ne : ∀ y ∈ before ++ after, y ≠ x := fun y hy e => fresh (e ▸ hy)
  refine ⟨before, after, rfl, Application.fold_other a fun b y hy => ?_, ?_⟩
  · exact other b y (by simp [hy]) (ne y (by simp [hy]))
  · rw [List.foldl_append, List.foldl_cons]
    exact Application.fold_other _ fun b y hy => other b y (by simp [hy]) (ne y (by simp [hy]))

/-! ## Areas (R9) -/

/-- The knot-planes an area names are those within its rectangle and its plane set, as far as the grid has planes. -/
theorem mem_areaOf {d : Descriptor} {c0 r0 c1 r1 : Nat} {ps : BitVec 8} {plane row column : Nat} :
    (plane, row, column) ∈ areaOf d c0 r0 c1 r1 ps ↔
      plane < d.planes ∧ (c0 ≤ column ∧ column ≤ c1) ∧ (r0 ≤ row ∧ row ≤ r1) ∧ ps.getLsbD plane = true := by
  simp only [areaOf, planeIn, List.mem_flatMap, List.mem_filter, List.mem_range, List.mem_map, List.mem_range'_1,
    Prod.mk.injEq]
  constructor
  · rintro ⟨p, ⟨hp, hs⟩, r, hr, c, hc, rfl, rfl, rfl⟩
    exact ⟨hp, by omega, by omega, hs⟩
  · rintro ⟨hp, hc, hr, hs⟩
    exact ⟨plane, ⟨hp, hs⟩, row, by omega, column, by omega, rfl, rfl, rfl⟩

/-- An area names no knot-plane twice. -/
theorem areaOf_nodup (d : Descriptor) (c0 r0 c1 r1 : Nat) (ps : BitVec 8) : (areaOf d c0 r0 c1 r1 ps).Nodup := by
  have row_nodup : ∀ p r : Nat, ((List.range' c0 (c1 + 1 - c0)).map (fun c => (p, r, c))).Nodup := fun p r =>
    List.Nodup.map (fun _ _ h => by simpa using h) List.nodup_range'
  refine List.nodup_flatMap.mpr ⟨fun p _ => List.nodup_flatMap.mpr ⟨fun r _ => row_nodup p r, ?rows⟩, ?planes⟩
  case rows =>
    refine List.Pairwise.imp (fun hne => List.disjoint_left.mpr fun k hk hk' => hne ?_) List.nodup_range'
    obtain ⟨c, -, rfl⟩ := List.mem_map.mp hk
    obtain ⟨c', -, e⟩ := List.mem_map.mp hk'
    exact (congrArg (·.2.1) e).symm
  case planes =>
    refine List.Pairwise.imp (fun hne => List.disjoint_left.mpr fun k hk hk' => hne ?_) (List.nodup_range.filter _)
    obtain ⟨r, -, hk⟩ := List.mem_flatMap.mp hk
    obtain ⟨c, -, rfl⟩ := List.mem_map.mp hk
    obtain ⟨r', -, hk'⟩ := List.mem_flatMap.mp hk'
    obtain ⟨c', -, e⟩ := List.mem_map.mp hk'
    exact (congrArg (·.1) e).symm

/-- A change swept over an area within the grid: each record of the area is changed once, every other one is left. -/
theorem Application.areaFold_record {d : Descriptor} {c0 r0 c1 r1 : Nat} {ps : BitVec 8} {a : Application}
    {column row plane : Nat} {old : KnotRecord} (change : KnotRecord → Option KnotRecord)
    (hc1 : c1 < d.columns) (hr1 : r1 < d.rows) (hc : column < d.columns) (hr : row < d.rows) (hp : plane < d.planes)
    (h : a.grid.records[d.index plane row column]? = some old) :
    ((areaOf d c0 r0 c1 r1 ps).foldl (fun a k => a.update d k.1 k.2.1 k.2.2 change) a).grid.records[
        d.index plane row column]? =
      some (if (c0 ≤ column ∧ column ≤ c1) ∧ (r0 ≤ row ∧ row ≤ r1) ∧ ps.getLsbD plane = true then
        (change old).getD old else old) := by
  have other : ∀ (b : Application), ∀ k ∈ areaOf d c0 r0 c1 r1 ps, k ≠ (plane, row, column) →
      (b.update d k.1 k.2.1 k.2.2 change).grid.records[d.index plane row column]? =
        b.grid.records[d.index plane row column]? := by
    rintro b ⟨p, r, c⟩ hk hne
    obtain ⟨-, ⟨-, hkc⟩, ⟨-, hkr⟩, -⟩ := mem_areaOf.mp hk
    refine Application.update_other fun e => hne ?_
    obtain ⟨rfl, rfl, rfl⟩ := Descriptor.index_inj hr hc (hkr.trans_lt hr1) (hkc.trans_lt hc1) e
    rfl
  split
  · next covered =>
    obtain ⟨before, -, -, found, left⟩ :=
      Application.fold_at a (areaOf_nodup d c0 r0 c1 r1 ps) (mem_areaOf.mpr ⟨hp, covered⟩) other
    rw [left, Application.update_self (found.trans h)]
  · next uncovered =>
    rw [Application.fold_other a fun b k hk => other b k hk fun e => ?_, h]
    exact uncovered (mem_areaOf.mp (e ▸ hk)).2

/-! ## A pinned record -/

/-- A WRITE entry changes no record that takes no part in direct writes (R7). -/
theorem Application.apply_write_records_of_not_writable {d : Descriptor} {frame : FrameNumber} {a : Application}
    {column row plane : Nat} {old : KnotRecord} (h : a.grid.records[d.index plane row column]? = some old)
    (hw : old.state.writable = false) (v : Rgb (Option Int)) :
    (a.apply d frame (.write column row plane v)).grid.records = a.grid.records := by
  simp [Application.apply, GridStore.record?, h, hw]

/-- A reading of a record that takes no part in direct writes places no entry (R76, R77). -/
theorem State.examineHead_queue_of_not_writable (s : State) (q : Reading) (rest : List Reading) {rec : KnotRecord}
    (hw : rec.state.writable = false) : (s.examineHead q rest rec).queue = s.queue := by
  unfold State.examineHead
  split
  · simp
  · simp [hw]

/-- A RETIRE entry makes its knot's record on every plane RETIRED, whatever fill its plane finds (R10). -/
theorem Application.apply_retire_self {d : Descriptor} {frame : FrameNumber} {a : Application}
    {column row plane : Nat} {old : KnotRecord} (hc : column < d.columns) (hr : row < d.rows) (hp : plane < d.planes)
    (h : a.grid.records[d.index plane row column]? = some old) :
    ∃ fill, (a.apply d frame (.retire column row)).grid.records[d.index plane row column]? =
      some (old.retiredWith fill frame) := by
  obtain ⟨before, -, -, found, left⟩ := Application.fold_at
    (f := fun a p => a.update d p row column (fun k => some (k.retiredWith (a.grid.fill d p row column) frame)))
    (i := d.index plane row column) a List.nodup_range (List.mem_range.mpr hp)
    (fun b p _ hne => Application.update_other fun e => hne (Descriptor.index_inj hr hc hr hc e).1.symm)
  exact ⟨_, left.trans (Application.update_self (found.trans h))⟩

/-- Settles O23: the two area entries as sweeps of one change over their area, and the three things that can meet a pinned
record. -/
theorem areaEntriesPinAndUnpin : Obligations.AreaEntriesPinAndUnpin := by
  intro d frame a c0 r0 c1 r1 planes column row plane old _ hc1 hr1 hc hr hp h covered
  refine ⟨?pin, ?unpin, fun pinned => ⟨?write, ?reading, ?retire⟩⟩
  case pin =>
    refine (Application.areaFold_record _ hc1 hr1 hc hr hp h).trans (congrArg some ?_)
    by_cases retired : old.state = .retired
    · simp [retired]
    · simp [retired, covered, KnotRecord.pinned]
  case unpin =>
    refine (Application.areaFold_record _ hc1 hr1 hc hr hp h).trans (congrArg some ?_)
    by_cases pinned : old.state = .pinned
    · simp [pinned, covered, KnotRecord.unpinned, Rgb.fill]
    · simp [pinned]
  case write =>
    exact Application.apply_write_records_of_not_writable h (by rw [pinned]; rfl)
  case reading =>
    exact fun s q rest => State.examineHead_queue_of_not_writable s q rest (by rw [pinned]; rfl)
  case retire =>
    obtain ⟨fill, retired⟩ := Application.apply_retire_self (frame := frame) hc hr hp h
    exact congrArg (Option.map (·.state)) retired

end Sys2Proof.Machine
end

section
/-! PROOFS. The output video: the weighted means of the bilinear step (R30) and of the level step (R31), and what their one
rounding keeps. -/

namespace Sys2Proof.Machine

open Sys2Proof

/-! ## Rounding (R28) -/

/-- Rounding to the nearest integer leaves no bound that is an integer. -/
theorem roundDiv_mem_Icc {n d lo hi : Int} (hd : 0 < d) (h : n ∈ Set.Icc (lo * d) (hi * d)) :
    roundDiv n d ∈ Set.Icc lo hi := by
  obtain ⟨hlo, hhi⟩ := h
  constructor
  · rw [roundDiv, Int.le_ediv_iff_mul_le (by omega)]
    linarith
  · rw [roundDiv, ← Int.lt_add_one_iff, Int.ediv_lt_iff_lt_mul (by omega)]
    linarith

theorem roundDiv_mul_self {d : Int} (hd : 0 < d) (t : Int) : roundDiv (t * d) d = t :=
  le_antisymm_iff.mpr (roundDiv_mem_Icc hd ⟨le_rfl, le_rfl⟩).symm

/-- With an even divisor the half that rounds is an integer, added before the division. -/
theorem roundDiv_two_mul (n h : Int) : roundDiv n (2 * h) = (n + h) / (2 * h) := by
  rw [roundDiv, ← mul_add, Int.mul_ediv_mul_of_pos _ _ two_pos]

theorem add_roundDiv {d : Int} (hd : 0 < d) (t n : Int) : t + roundDiv n d = roundDiv (t * d + n) d := by
  have split : 2 * (t * d + n) + d = 2 * n + d + t * (2 * d) := by ring
  rw [roundDiv, roundDiv, split, Int.add_mul_ediv_right _ _ (by omega), add_comm]

/-! ## Weighted means -/

/-- What two values, weighted by the two parts of a length, add up to lies between the length's multiples of any bounds. -/
theorem weighted_mem_Icc {S f lo hi t u : Int} (hf : f ∈ Set.Icc 0 S) (ht : t ∈ Set.Icc lo hi) (hu : u ∈ Set.Icc lo hi) :
    t * (S - f) + u * f ∈ Set.Icc (lo * S) (hi * S) := by
  obtain ⟨hf0, hfS⟩ := hf
  have hg : 0 ≤ S - f := by omega
  constructor
  · calc lo * S = lo * (S - f) + lo * f := by ring
      _ ≤ t * (S - f) + u * f := by gcongr; exacts [ht.1, hu.1]
  · calc t * (S - f) + u * f ≤ hi * (S - f) + hi * f := by gcongr; exacts [ht.2, hu.2]
      _ = hi * S := by ring

/-- The interpolation between two plane levels is a weighted mean, rounded (R31). -/
theorem interpolated_mem_Icc {D f lo hi t u : Int} (hD : 0 < D) (hf : f ∈ Set.Icc 0 D) (ht : t ∈ Set.Icc lo hi)
    (hu : u ∈ Set.Icc lo hi) : t + roundDiv ((u - t) * f) D ∈ Set.Icc lo hi := by
  have mean : t * D + (u - t) * f = t * (D - f) + u * f := by ring
  rw [add_roundDiv hD, mean]
  exact roundDiv_mem_Icc hD (weighted_mem_Icc hf ht hu)

/-! ## The bilinear step (R30) -/

/-- The exact numerator of the bilinear step: the weighted mean of two weighted means. -/
def bilinearSum (S fx fy t00 t10 t01 t11 : Int) : Int :=
  (t00 * (S - fx) + t10 * fx) * (S - fy) + (t01 * (S - fx) + t11 * fx) * fy

theorem bilinear_eq (d : Descriptor) (trim : Nat → Nat → Int) (x y : Nat) :
    bilinear d trim x y =
      roundDiv (bilinearSum d.spacing (x % d.spacing : Nat) (y % d.spacing : Nat) (trim (x / d.spacing) (y / d.spacing))
        (trim (x / d.spacing + 1) (y / d.spacing)) (trim (x / d.spacing) (y / d.spacing + 1))
        (trim (x / d.spacing + 1) (y / d.spacing + 1))) (d.spacing * d.spacing) := by
  simp [bilinear, bilinearSum]

theorem bilinearSum_mem_Icc {S fx fy lo hi t00 t10 t01 t11 : Int} (hx : fx ∈ Set.Icc 0 S) (hy : fy ∈ Set.Icc 0 S)
    (h00 : t00 ∈ Set.Icc lo hi) (h10 : t10 ∈ Set.Icc lo hi) (h01 : t01 ∈ Set.Icc lo hi) (h11 : t11 ∈ Set.Icc lo hi) :
    bilinearSum S fx fy t00 t10 t01 t11 ∈ Set.Icc (lo * (S * S)) (hi * (S * S)) := by
  rw [← mul_assoc, ← mul_assoc]
  exact weighted_mem_Icc hy (weighted_mem_Icc hx h00 h10) (weighted_mem_Icc hx h01 h11)

theorem bilinearSum_knot (S t00 t10 t01 t11 : Int) : bilinearSum S 0 0 t00 t10 t01 t11 = t00 * (S * S) := by
  simp [bilinearSum, mul_assoc]

theorem Descriptor.spacing_pos (d : Descriptor) : 0 < d.spacing := Nat.two_pow_pos _

theorem Descriptor.offset_mem_Icc (d : Descriptor) (x : Nat) : ((x % d.spacing : Nat) : Int) ∈ Set.Icc 0 (d.spacing : Int) :=
  ⟨Int.natCast_nonneg _, Int.ofNat_le.mpr (Nat.mod_lt x d.spacing_pos).le⟩

/-- The square of an even spacing is twice its half. -/
theorem Descriptor.spacing_sq {d : Descriptor} (h : 1 ≤ d.exponent) :
    d.spacing * d.spacing = 2 * (d.spacing * d.spacing / 2) :=
  (Nat.mul_div_cancel' ((dvd_pow_self 2 (by omega)).mul_right _)).symm

/-- Whatever bounds the four trims of the cell bounds the trim of the pixel (R30). -/
theorem bilinear_mem_Icc {d : Descriptor} {trim : Nat → Nat → Int} {x y : Nat} {lo hi : Int}
    (h00 : trim (x / d.spacing) (y / d.spacing) ∈ Set.Icc lo hi)
    (h10 : trim (x / d.spacing + 1) (y / d.spacing) ∈ Set.Icc lo hi)
    (h01 : trim (x / d.spacing) (y / d.spacing + 1) ∈ Set.Icc lo hi)
    (h11 : trim (x / d.spacing + 1) (y / d.spacing + 1) ∈ Set.Icc lo hi) : bilinear d trim x y ∈ Set.Icc lo hi := by
  have hS : (0 : Int) < d.spacing := Int.ofNat_lt.mpr d.spacing_pos
  rw [bilinear_eq]
  exact roundDiv_mem_Icc (mul_pos hS hS) (bilinearSum_mem_Icc (d.offset_mem_Icc x) (d.offset_mem_Icc y) h00 h10 h01 h11)

/-- A pixel on a knot takes the knot's trim (R30). -/
theorem bilinear_knot {d : Descriptor} (trim : Nat → Nat → Int) {x y : Nat} (hx : x % d.spacing = 0)
    (hy : y % d.spacing = 0) : bilinear d trim x y = trim (x / d.spacing) (y / d.spacing) := by
  have hS : (0 : Int) < d.spacing := Int.ofNat_lt.mpr d.spacing_pos
  rw [bilinear_eq, hx, hy, Nat.cast_zero, bilinearSum_knot, roundDiv_mul_self (mul_pos hS hS)]

/-- The trim at a knot is its record's, whatever the record's state (R30). -/
theorem GridStore.trimAt_of_record {g : GridStore} {d : Descriptor} {plane row column : Nat} {r : KnotRecord}
    (ch : Channel) (h : g.records[d.index plane row column]? = some r) : g.trimAt d ch column row plane = r.trim.get ch := by
  simp [GridStore.trimAt, GridStore.record?, h]

/-- Settles O50: the bilinear step as one rounded weighted mean, bounded by whatever bounds the cell's four trims. -/
theorem bilinearTrimLiesAmongItsKnots : Obligations.BilinearTrimLiesAmongItsKnots := by
  intro d trim x y he S t00 t10 t01 t11 fx fy a b
  have between : bilinear d trim x y ∈ Set.Icc (min (min t00 t10) (min t01 t11)) (max (max t00 t10) (max t01 t11)) :=
    bilinear_mem_Icc (by simp [t00, S, Descriptor.spacing]) (by simp [t10, S, Descriptor.spacing])
      (by simp [t01, S, Descriptor.spacing]) (by simp [t11, S, Descriptor.spacing])
  refine ⟨?quotient, between.1, between.2, bilinear_mem_Icc, bilinear_knot trim,
    fun g ch column row plane r => GridStore.trimAt_of_record ch⟩
  case quotient =>
    have half : ((S * S : Nat) : Int) = 2 * (S * S / 2 : Nat) := by exact_mod_cast Descriptor.spacing_sq he
    have cast : (d.spacing : Int) * d.spacing = (S * S : Nat) := (Nat.cast_mul _ _).symm
    rw [bilinear_eq, cast, half, roundDiv_two_mul]
    rfl

/-! ## The level step (R31) -/

/-- A code at or below the level at hand takes its plane's trim. -/
theorem levelTrim_of_le (t : Nat → Int) {v low : Nat} (p : Nat) (rest : List Nat) (h : v ≤ low) :
    levelTrim t v p (low :: rest) = t p := by
  cases rest with
  | nil => rfl
  | cons high rest => rw [levelTrim, if_pos h]

theorem levelTrim_between (t : Nat → Int) {v low high : Nat} (p : Nat) (rest : List Nat) (hlow : low < v) (hhigh : v < high) :
    levelTrim t v p (low :: high :: rest) =
      t p + roundDiv ((t (p + 1) - t p) * ((v : Int) - low)) ((high : Int) - low) := by
  rw [levelTrim, if_neg (by omega), if_pos hhigh]

/-- A code that reaches the second level, the levels rising, is decided by the rest of them. -/
theorem levelTrim_tail (t : Nat → Int) {v low high : Nat} (p : Nat) (rest : List Nat) (hlow : low < high) (h : high ≤ v) :
    levelTrim t v p (low :: high :: rest) = levelTrim t v (p + 1) (high :: rest) := by
  rw [levelTrim, if_neg (by omega), if_neg (by omega)]

/-- A code that reaches level `k` is decided by the levels from there on. -/
theorem levelTrim_drop (t : Nat → Int) {v : Nat} {levels : List Nat} (rising : levels.Pairwise (· < ·)) (p k : Nat)
    (hk : k < levels.length) (h : levels[k] ≤ v) : levelTrim t v p levels = levelTrim t v (p + k) (levels.drop k) := by
  induction k generalizing p levels with
  | zero => rfl
  | succ k ih =>
    match levels, rising, hk, h with
    | low :: high :: rest, rising, hk, h =>
      have hk' : k < (high :: rest).length := by simpa using hk
      have tail : (high :: rest).Pairwise (· < ·) := rising.of_cons
      have hlow : low < high := List.rel_of_pairwise_cons rising List.mem_cons_self
      have reached : (high :: rest)[0] ≤ (high :: rest)[k] := tail.sortedLT.sortedLE.getElem_le_getElem_of_le k.zero_le
      rw [levelTrim_tail t p rest hlow (reached.trans h), ih tail (p + 1) hk' h, List.drop_succ_cons, Nat.add_right_comm,
        Nat.add_assoc]

section LevelCases

variable (t : Nat → Int) {v : Nat} {levels : List Nat} (rising : levels.Pairwise (· < ·))
include rising

/-- A code on a level takes that level's plane's trim. -/
theorem levelTrim_at_level {p : Nat} (hp : p < levels.length) (h : v = levels[p]) : levelTrim t v 0 levels = t p := by
  rw [levelTrim_drop t rising 0 p hp h.ge, List.drop_eq_getElem_cons hp, levelTrim_of_le t _ _ h.le, Nat.zero_add]

/-- A code at or above the last level takes the last plane's trim. -/
theorem levelTrim_of_last_le {p : Nat} (hp : p + 1 = levels.length) (h : levels[p] ≤ v) : levelTrim t v 0 levels = t p := by
  rw [levelTrim_drop t rising 0 p (by omega) h, List.drop_eq_getElem_cons (by omega), hp, List.drop_length, levelTrim,
    Nat.zero_add]

/-- A code strictly between two neighbouring levels takes the interpolation of their planes' trims. -/
theorem levelTrim_between_levels {p : Nat} (hp : p + 1 < levels.length) (hlow : levels[p] < v) (hhigh : v < levels[p + 1]) :
    levelTrim t v 0 levels =
      t p + roundDiv ((t (p + 1) - t p) * ((v : Int) - levels[p])) ((levels[p + 1] : Int) - levels[p]) := by
  rw [levelTrim_drop t rising 0 p (by omega) hlow.le, List.drop_eq_getElem_cons (by omega), List.drop_eq_getElem_cons hp,
    levelTrim_between t _ _ hlow hhigh, Nat.zero_add]

end LevelCases

/-- Whatever bounds the trims of all planes bounds the level step. -/
theorem levelTrim_mem_Icc (t : Nat → Int) {v p : Nat} {levels : List Nat} {lo hi : Int} (some_level : levels ≠ [])
    (bounded : ∀ k < levels.length, t (p + k) ∈ Set.Icc lo hi) : levelTrim t v p levels ∈ Set.Icc lo hi := by
  have here : t p ∈ Set.Icc lo hi := bounded 0 (List.length_pos_iff.mpr some_level)
  fun_induction levelTrim t v p levels with
  | case1 => contradiction
  | case2 => exact here
  | case3 => exact here
  | case4 p low high rest above below =>
    exact interpolated_mem_Icc (by omega) ⟨by omega, by omega⟩ here (bounded 1 (by simp))
  | case5 p low high rest _ _ ih =>
    refine ih (List.cons_ne_nil _ _) (fun k hk => ?_) (bounded 1 (by simp))
    rw [Nat.add_assoc, Nat.add_comm 1]
    exact bounded (k + 1) (Nat.succ_lt_succ hk)

/-- Settles O51: the cases of the level step by how far the code reaches, and the bounds of the interpolation. -/
theorem planesCombineByTheInputCode : Obligations.PlanesCombineByTheInputCode := by
  intro levels t v some_level rising L last
  have pos : 0 < levels.length := List.length_pos_iff.mpr some_level
  have level : ∀ {p} (hp : p < levels.length), L p = levels[p] := fun hp => List.getD_eq_getElem levels 0 hp
  refine ⟨?single, ?first, ?above, ?between, ?onLevel, ?range, ?pixel⟩
  case single =>
    intro one
    obtain ⟨low, rfl⟩ := List.length_eq_one_iff.mp one
    rfl
  case first =>
    obtain ⟨low, rest, rfl⟩ := List.exists_cons_of_ne_nil some_level
    exact levelTrim_of_le t 0 rest
  case above =>
    intro h
    rw [level (by omega)] at h
    exact levelTrim_of_last_le t rising (by omega) h
  case between =>
    intro p hp hlow hhigh
    rw [level (by omega)] at hlow ⊢
    rw [level hp] at hhigh ⊢
    have interpolated := levelTrim_between_levels t rising hp hlow hhigh
    refine ⟨interpolated, ?_⟩
    rw [interpolated]
    exact interpolated_mem_Icc (by omega) ⟨by omega, by omega⟩ ⟨min_le_left _ _, le_max_left _ _⟩
      ⟨min_le_right _ _, le_max_right _ _⟩
  case onLevel =>
    intro p _ hp h
    have inside : p < levels.length := by omega
    exact levelTrim_at_level t rising inside (h.trans (level inside))
  case range =>
    exact fun bounded => levelTrim_mem_Icc t some_level fun k hk => by simpa using bounded k hk
  case pixel =>
    rintro g d ch x y rfl same
    rw [GridStore.pixelTrim, ← funext same]

end Sys2Proof.Machine
end

section
/-! PROOFS. The arithmetic of convergence: the step of R84 as a rounded fraction of the distance, brought within a limit about
0, and the tolerance of a reading whose target trim is one below (R85). -/

namespace Sys2Proof.Machine

open Sys2Proof

/-! ## Clamping -/

theorem clampInt_mem_Icc {lo hi : Int} (h : lo ≤ hi) (v : Int) : clampInt lo hi v ∈ Set.Icc lo hi :=
  ⟨le_max_left _ _, max_le h (min_le_left _ _)⟩

theorem clampInt_eq_self_iff {lo hi v : Int} (h : lo ≤ hi) : clampInt lo hi v = v ↔ v ∈ Set.Icc lo hi := by
  rw [clampInt, Set.mem_Icc]
  omega

/-- Limits about 0 move a value only towards 0. -/
theorem clampInt_mem_Icc_of_zero_mem {lo hi a b v : Int} (limits : 0 ∈ Set.Icc lo hi) (zero : 0 ∈ Set.Icc a b)
    (hv : v ∈ Set.Icc a b) : clampInt lo hi v ∈ Set.Icc a b :=
  ⟨le_max_of_le_right (le_min (zero.1.trans limits.2) hv.1),
    max_le (limits.1.trans zero.2) ((min_le_right _ _).trans hv.2)⟩

theorem saturate_eq_self_iff {v : Int} : saturate v = v ↔ trimInRange v :=
  clampInt_eq_self_iff (by decide)

/-! ## The step (R84) -/

theorem zero_mem_stepLimits (l : LoopParameters) : (0 : Int) ∈ Set.Icc (-(l.stepLimit : Int)) l.stepLimit := by
  rw [Set.mem_Icc]
  omega

/-- The rounded step, before the limit, lies between 0 and the distance. -/
theorem roundedStep_mem_Icc {l : LoopParameters} (h : l.inRange) (d : Int) :
    roundDiv (d * l.coefficient) 256 ∈ Set.Icc (min 0 d) (max 0 d) := by
  obtain ⟨⟨-, coefficient_le⟩, -⟩ := h
  simpa using interpolated_mem_Icc (D := 256) (f := l.coefficient) (by decide) ⟨by omega, by omega⟩
    ⟨min_le_left 0 d, le_max_left 0 d⟩ ⟨min_le_right 0 d, le_max_right 0 d⟩

theorem newTrim_sub (l : LoopParameters) (t target : Int) : newTrim l t target - t =
    clampInt (-l.stepLimit) l.stepLimit (roundDiv ((target - t) * l.coefficient) 256) :=
  add_sub_cancel_left t _

/-- The step that is taken lies between 0 and the distance too. -/
theorem newTrim_sub_mem_Icc {l : LoopParameters} (h : l.inRange) (t target : Int) :
    newTrim l t target - t ∈ Set.Icc (min 0 (target - t)) (max 0 (target - t)) := by
  rw [newTrim_sub]
  exact clampInt_mem_Icc_of_zero_mem (zero_mem_stepLimits l) ⟨min_le_left _ _, le_max_left _ _⟩ (roundedStep_mem_Icc h _)

theorem newTrim_sub_mem_stepLimits (l : LoopParameters) (t target : Int) :
    newTrim l t target - t ∈ Set.Icc (-(l.stepLimit : Int)) l.stepLimit := by
  rw [newTrim_sub]
  exact clampInt_mem_Icc ((zero_mem_stepLimits l).1.trans (zero_mem_stepLimits l).2) _

/-- A rounded step within the limit is taken whole. -/
theorem newTrim_eq_add {l : LoopParameters} {t target step : Int} (rounded : roundDiv ((target - t) * l.coefficient) 256 = step)
    (within : step.natAbs ≤ l.stepLimit) : newTrim l t target = t + step := by
  rw [← sub_eq_iff_eq_add', newTrim_sub, rounded, clampInt_eq_self_iff (by omega)]
  exact ⟨by omega, by omega⟩

/-! ## A target trim one below the trim (R83, R85) -/

theorem roundDiv_eq_iff {n d q : Int} (hd : 0 < d) :
    roundDiv n d = q ↔ (2 * q - 1) * d ≤ 2 * n ∧ 2 * n < (2 * q + 1) * d := by
  have low : (2 * q - 1) * d = q * (2 * d) - d := by ring
  have high : (2 * q + 1) * d = q * (2 * d) + d := by ring
  rw [roundDiv, Int.ediv_eq_iff_of_pos (by omega)]
  omega

/-- A target trim outside the limit set is the exact one, and lies in the trim range. -/
theorem targetTrim_eq_unlimited_iff {t u : Int} {m : Measurement} :
    targetTrim t m = (u, false) ↔ 0 < m.luminance ∧ rawTargetTrim t m = u ∧ trimInRange u := by
  unfold targetTrim
  split
  case isTrue dark => simp [dark]
  case isFalse lit =>
    rw [Prod.mk.injEq, bne_eq_false_iff_eq]
    constructor
    · rintro ⟨rfl, unlimited⟩
      exact ⟨Nat.pos_of_ne_zero lit, unlimited.symm, saturate_eq_self_iff.mp (congrArg saturate unlimited)⟩
    · rintro ⟨-, rfl, within⟩
      exact ⟨saturate_eq_self_iff.mpr within, saturate_eq_self_iff.mpr within⟩

/-- Rounding puts the excess of the luminance over the target at no more than 3/(2·(32768 + t) − 3) of the target, which is
far below 1/1024, the least tolerance. -/
theorem inTolerance_of_targetTrim_eq_pred {l : LoopParameters} (h : l.inRange) {t : Int} {m : Measurement}
    (below : targetTrim t m = (t - 1, false)) : inTolerance l m = true := by
  obtain ⟨lit, raw, low, -⟩ := targetTrim_eq_unlimited_iff.mp below
  obtain ⟨-, -, ⟨tolerance_pos, -⟩, -⟩ := h
  have rounded : roundDiv ((32768 + t) * m.target) m.luminance = 32768 + t - 1 := by
    rw [rawTargetTrim] at raw
    omega
  obtain ⟨atLeast, lessThan⟩ := (roundDiv_eq_iff (by omega)).mp rounded
  have brighter : (m.target : Int) < m.luminance := by
    by_contra! dim
    nlinarith
  have excess : (2 * (32768 + t) - 3) * ((m.luminance : Int) - m.target) ≤ 3 * m.target := by linarith
  have small : ((m.luminance : Int) - m.target) * 1024 ≤ m.target := by nlinarith
  refine decide_eq_true ?_
  calc ((m.target : Int) - m.luminance).natAbs * 1024 ≤ 1 * m.target := by omega
    _ ≤ l.tolerance * m.target := Nat.mul_le_mul_right _ tolerance_pos

/-- Settles O35: the step lies between 0 and the distance and within the limit, and each step that is named is the rounded
one, within the limit. -/
theorem newTrimStaysBetweenTrimAndTarget : Obligations.NewTrimStaysBetweenTrimAndTarget := by
  intro l t target inRange trim_inRange target_inRange
  have ⟨_, ⟨limit_pos, _⟩, _⟩ := inRange
  obtain ⟨step_ge, step_le⟩ := newTrim_sub_mem_Icc inRange t target
  obtain ⟨limit_ge, limit_le⟩ := newTrim_sub_mem_stepLimits l t target
  refine ⟨by omega, rfl, by omega, by omega, by omega, by omega, by omega, ?whole, ?atTarget, ?oneAbove, ?oneBelow, ?tolerance⟩
  case whole =>
    intro full within
    have rounded : roundDiv ((target - t) * l.coefficient) 256 = target - t := by
      rw [full]
      exact roundDiv_mul_self (by decide) _
    rw [newTrim_eq_add rounded within, add_sub_cancel]
  case atTarget =>
    rintro rfl
    omega
  case oneAbove =>
    rintro half rfl
    exact newTrim_eq_add (by rw [half, add_sub_cancel_left]; rfl) limit_pos
  case oneBelow =>
    rintro half rfl
    exact (newTrim_eq_add (by rw [half, sub_sub_cancel_left]; rfl) (Nat.zero_le _)).trans (add_zero t)
  case tolerance =>
    exact fun m _ below => of_decide_eq_true (inTolerance_of_targetTrim_eq_pred inRange below)

end Sys2Proof.Machine
end

section
/-! PROOFS. Everything one command can do, said once: what an owning block answers (`Effect`), what an event of the part or
of its surroundings does (`Event`), and the two with the ports around them (`Done`). The frame laws and the invariants go
through these three and not through the commands. -/

namespace Sys2Proof.Machine

open Sys2Proof

/-! ## Checks that have passed -/

theorem check_bind_eq_ok {α β : Type} {x : Check α} {f : α → Check β} {b : β} :
    (x >>= f) = .ok b ↔ ∃ a, x = .ok a ∧ f a = .ok b := by
  cases x <;> simp

theorem require_eq_ok {c : Bool} {st : Status} {fields : List Byte} {u : Unit} :
    require c st fields = .ok u ↔ c = true := by
  cases c <;> simp [require]

theorem requireSome_eq_ok {α : Type} {o : Option α} {st : Status} {fields : List Byte} {a : α} :
    requireSome o st fields = .ok a ↔ o = some a := by
  cases o <;> simp [requireSome]

theorem checkEditing_eq_ok {s : State} {d : Descriptor} :
    checkEditing s = .ok d ↔ s.modes.shipping = false ∧ s.grid.descriptor = some d := by
  simp [checkEditing, check_bind_eq_ok, require_eq_ok, requireSome_eq_ok]

theorem State.tablesOpen_iff {s : State} : s.tablesOpen = true ↔ s.saveRuns = false ∧ s.modes.shipping = false := by
  simp [State.tablesOpen]

theorem State.slotsOpen_iff {s : State} : s.slotsOpen = true ↔ s.store.write = .idle ∧ s.modes.shipping = false := by
  simp [State.slotsOpen, State.writeRuns]

/-! ## What owning blocks answer -/

/-- The state an answer leaves, before the port takes note of it. -/
def Answer.after : Answer → State
  | .reply _ _ s => s
  | .wait s => s
  | .silent s => s

/-- Everything the owning block of request `i` can answer to a call it does not refuse. -/
inductive Effect (i : Instr) (s : State) (c : Call) : Answer → Prop
  | asked (status : Status) (payload : List Byte) : Effect i s c (.reply status payload s)
  | attentionRead (payload : List Byte) (h : readsAttention c.port i = true) :
      Effect i s c (.reply .ok payload { s with attention := s.attention.clear c.port })
  | masked (payload : List Byte) (m : FlagSet) :
      Effect i s c (.reply .ok payload { s with attention := s.attention.withMask m c.port })
  | reset (h : isResetEvent i = true) : Effect i s c (.silent (s.volatileReset s.startUpAfterReset))
  | gridDefined (payload : List Byte) (h : mayChangeRecords i = true) (d : Descriptor) (sound : d.sound) :
      Effect i s c (.reply .ok payload (s.defineGrid d))
  | placed (payload : List Byte) (es : List Entry) (d : Descriptor) (grid : s.grid.descriptor = some d)
      (room : s.queue.entries.length + es.length ≤ 256)
      (sound : ∀ e ∈ es, e.within d ∧ e.inRange ∧ e.isAdjust = false) :
      Effect i s c (.reply .ok payload (s.place es))
  | adjusted (e : Entry) (d : Descriptor) (grid : s.grid.descriptor = some d) (level : c.level ≤ 1)
      (ship : s.modes.shipping = false) (room : s.queue.entries.length + 1 ≤ 256)
      (within : e.within d) (adjust : e.isAdjust = true) : Effect i s c (.wait (s.place [e]))
  | summaryRead (payload : List Byte) :
      Effect i s c (.reply .ok payload { s with grid := { s.grid with writeSkip := 0 } })
  | bypassSet (payload : List Byte) (on : Bool) :
      Effect i s c (.reply .ok payload { s with engine := s.engine.setBypass c.level on })
  | holdSet (payload : List Byte) (h : HoldState) : Effect i s c (.reply .ok payload (s.withHold h))
  | targetsSet (payload : List Byte) (v : Vector (Rgb Nat) 8) :
      Effect i s c (.reply .ok payload { s with conv := { s.conv with targets := v } })
  | parametersSet (payload : List Byte) (l : LoopParameters) (h : l.inRange) :
      Effect i s c (.reply .ok payload { s with conv := { s.conv with parameters := l } })
  | readingsTaken (payload : List Byte) (b : Batch) (d : Descriptor) (grid : s.grid.descriptor = some d)
      (room : s.conv.readings.length + b.readings.length ≤ 64) (plane : b.plane < d.planes)
      (within : ∀ r ∈ b.readings, r.column < d.columns ∧ r.row < d.rows) :
      Effect i s c (.reply .ok payload (s.intake b))
  | convergenceRead (payload : List Byte) :
      Effect i s c (.reply .ok payload { s with conv := { s.conv with processed := 0, stale := 0, ignored := 0 } })
  | generatorSet (payload : List Byte) (g : PatternGenerator) :
      Effect i s c (.reply .ok payload { s with generator := g })
  | timesSet (payload : List Byte) (settle guard : Nat) (hs : settle ≤ 2000) (hg : guard ≤ 2000) :
      Effect i s c
        (.reply .ok payload { s with detector := { s.detector with settleTime := settle, guardTime := guard } })
  | regionStored (payload : List Byte) (k : Fin 8) (r : Region) (sound : r.sound)
      (free : s.regions.selection ≠ some k) (new : ∀ j : Fin 8, j ≠ k → s.regions.profiles[j].carries r.code = false) :
      Effect i s c (.reply .ok payload (s.withRegions (s.regions.put k (.held .stored r))))
  | regionRetired (payload : List Byte) (k : Fin 8) (r : Region) (h : s.regions.profiles[k] = .held .stored r)
      (free : s.regions.selection ≠ some k) :
      Effect i s c (.reply .ok payload (s.withRegions (s.regions.put k (.held .retired r))))
  | regionErased (payload : List Byte) (k : Fin 8) (free : s.regions.selection ≠ some k) :
      Effect i s c (.reply .ok payload (s.withRegions (s.regions.put k .empty)))
  | regionSelected (payload : List Byte) (k : Fin 8) (r : Region) (h : s.regions.profiles[k] = .held .stored r) :
      Effect i s c (.reply .ok payload { s with regions := { s.regions with selection := some k } })
  | loadBegun (payload : List Byte) (k : Fin 16) (class_ : KeyClass) (declared : Nat)
      (length : lengthSound class_ declared) (idle : s.creds.loading = none) (write : s.store.write = .idle)
      (service : class_ = .service → s.creds.serviceElsewhere k = false) :
      Effect i s c (.reply .ok payload { s with creds := s.creds.begin k class_ declared })
  | chunkJoined (payload : List Byte) (k : Fin 16) (class_ : KeyClass) (declared : Nat) (received data : List Byte)
      (h : s.creds.slots[k] = .loading class_ declared received) (write : s.store.write = .idle)
      (fits : received.length + data.length ≤ declared) :
      Effect i s c (.reply .ok payload
        { s with
          creds :=
            { slots := s.creds.slots.set k (.loading class_ declared (received ++ data))
              loading := some { slot := k, gap := 0 } } })
  | loadDropped (status : Status) (payload : List Byte) (k : Fin 16) (h : s.creds.slots[k].isLoading = true)
      (write : s.store.write = .idle) :
      Effect i s c (.reply status payload { s with creds := s.creds.finish k .empty })
  | loadEnded (payload : List Byte) (k : Fin 16) (class_ : KeyClass) (declared : Nat) (data : List Byte)
      (h : s.creds.slots[k] = .loading class_ declared data) (write : s.store.write = .idle)
      (whole : data.length = declared) :
      Effect i s c (.reply .ok payload
        { s with creds := s.creds.finish k (.loaded class_ declared data (checkValue data)) }.setDirty)
  | revoked (payload : List Byte) (k : Fin 16) (class_ : KeyClass) (declared : Nat) (check : CheckValue)
      (h : s.creds.slots[k].revocable? = some (class_, declared, check)) (service : class_ ≠ .service)
      (write : s.store.write = .idle) :
      Effect i s c (.reply .ok payload { s with creds := s.creds.put k (.revoked class_ declared check) }.setDirty)
  | revocationBegun (k : Fin 16) (class_ : KeyClass) (declared : Nat) (check : CheckValue) (x : ImageContents)
      (h : s.creds.slots[k].revocable? = some (class_, declared, check)) (service : class_ ≠ .service)
      (write : s.store.write = .idle) (ship : s.modes.shipping = false) (image : s.store.image = .complete x) :
      Effect i s c (.wait
        ({ s with creds := s.creds.put k (.revoked class_ declared check) }.setDirty.beginRevocation x c.port k))
  | slotErased (payload : List Byte) (k : Fin 16) (h : s.creds.slots[k].isLoading = false)
      (write : s.store.write = .idle) :
      Effect i s c (.reply .ok payload { s with creds := s.creds.put k .empty }.setDirty)
  | saveBegun (payload : List Byte) (write : s.store.write = .idle) (ship : s.modes.shipping = false) :
      Effect i s c (.reply .ok payload s.beginSave)
  | shipped (level : c.level ≤ 1) (mode : s.modes.mode ≠ .field) (ship : s.modes.shipping = false)
      (write : s.store.write = .idle) : Effect i s c (.wait s.takeShip)
  | reopened (payload : List Byte) (mode : s.modes.mode = .field) :
      Effect i s c (.reply .ok payload { s with modes := { s.modes with mode := .service, failures := 0 } })
  | reopenFailed (payload : List Byte) (h : s.modes.failures < 3) :
      Effect i s c (.reply .denied payload
        ({ s with modes := { s.modes with failures := s.modes.failures + 1 } }.raiseIf true .reopenFail))

end Sys2Proof.Machine
end

section
/-! PROOFS. Each owning block answers as `Effect` says. -/

namespace Sys2Proof.Machine

open Sys2Proof

/-! ## Requests that change nothing, and those of the status, mask, grid and pattern blocks -/

section Blocks

variable {i : Instr} {c : Call} {s : State} {a : Answer}

theorem ownReadIdentity_effect (h : ownReadIdentity c s = .ok a) : Effect i s c a := by
  cases h; exact .asked ..

theorem ownReadStatus_effect (h : ownReadStatus c s = .ok a) : Effect i s c a := by
  cases h; exact .asked ..

theorem ownReadAttention_effect (hi : readsAttention c.port i = true) (h : ownReadAttention c s = .ok a) :
    Effect i s c a := by
  cases h; exact .attentionRead _ hi

theorem ownSetAttentionMask_effect (h : ownSetAttentionMask c s = .ok a) : Effect i s c a := by
  simp only [ownSetAttentionMask, check_bind_eq_ok, check_pure, Except.ok.injEq, Prod.exists] at h
  obtain ⟨m, rest, -, -, -, rfl⟩ := h
  exact .masked ..

theorem ownReset_effect (hi : isResetEvent i = true) (h : ownReset c s = .ok a) : Effect i s c a := by
  simp only [ownReset, check_bind_eq_ok, check_pure, Except.ok.injEq] at h
  obtain ⟨-, -, rfl⟩ := h
  exact .reset hi

theorem ownReadDescriptor_effect (h : ownReadDescriptor c s = .ok a) : Effect i s c a := by
  cases h; exact .asked ..

theorem ownReadKnots_effect (h : ownReadKnots c s = .ok a) : Effect i s c a := by
  simp only [ownReadKnots, check_bind_eq_ok, check_pure, Except.ok.injEq, Prod.exists] at h
  obtain ⟨_, _, -, _, _, -, _, _, -, _, _, -, _, -, _, -, _, -, rfl⟩ := h
  exact .asked ..

theorem ownReadSummary_effect (h : ownReadSummary c s = .ok a) : Effect i s c a := by
  cases h; exact .summaryRead _

theorem readLevels_length {n : Nat} {bytes : List Byte} {levels : List Nat} (h : readLevels n bytes = .ok levels) :
    levels.length = n := by
  induction n generalizing bytes levels with
  | zero => cases bytes <;> cases h; rfl
  | succ n ih =>
    simp only [readLevels, check_bind_eq_ok, check_pure, Except.ok.injEq, Prod.exists] at h
    obtain ⟨_, _, -, more, hmore, rfl⟩ := h
    rw [List.length_cons, ih hmore]

/-- A descriptor that passes the checks of Define Grid is sound (R1, R3, R16). -/
theorem checkDefineGrid_sound {payload : List Byte} {d : Descriptor} (h : checkDefineGrid payload s = .ok d) :
    d.sound := by
  simp only [checkDefineGrid, check_bind_eq_ok, check_pure, Except.ok.injEq, Prod.exists, require_eq_ok,
    Bool.and_eq_true, decide_eq_true_eq, List.all_eq_true, strictlyIncreasing_iff] at h
  obtain ⟨_, _, -, _, _, -, _, _, -, count, _, -, _, -, _, ⟨hlow, hhigh⟩, _, -, _, -, levels, hlevels, _,
    ⟨⟨⟨⟨⟨⟨hw, hw'⟩, hh⟩, hh'⟩, he⟩, he'⟩, hl⟩, _, rising, _, room, rfl⟩ := h
  have hcount := readLevels_length hlevels
  exact ⟨⟨hw, hw'⟩, ⟨hh, hh'⟩, ⟨he, he'⟩, ⟨by rw [hcount]; exact hlow, by rw [hcount]; exact hhigh⟩, hl, rising, room⟩

theorem ownDefineGrid_effect (hi : mayChangeRecords i = true) (h : ownDefineGrid c s = .ok a) : Effect i s c a := by
  simp only [ownDefineGrid, check_bind_eq_ok, check_pure, Except.ok.injEq] at h
  obtain ⟨d, hd, rfl⟩ := h
  exact .gridDefined _ hi d (checkDefineGrid_sound hd)

theorem ownSetBypass_effect (h : ownSetBypass c s = .ok a) : Effect i s c a := by
  simp only [ownSetBypass, check_bind_eq_ok, check_pure, Except.ok.injEq, Prod.exists] at h
  obtain ⟨_, _, -, _, -, _, -, rfl⟩ := h
  exact .bypassSet ..

theorem ownSelectSource_effect (h : ownSelectSource c s = .ok a) : Effect i s c a := by
  simp only [ownSelectSource, check_bind_eq_ok, check_pure, Except.ok.injEq, Prod.exists] at h
  obtain ⟨_, _, -, _, -, _, -, rfl⟩ := h
  exact .generatorSet ..

theorem ownShowPattern_effect (h : ownShowPattern c s = .ok a) : Effect i s c a := by
  simp only [ownShowPattern, check_bind_eq_ok, check_pure, Except.ok.injEq, Prod.exists] at h
  obtain ⟨_, _, -, _, _, -, _, _, -, _, _, -, _, -, _, -, _, -, _, -, rfl⟩ := h
  exact .generatorSet ..

theorem ownSetPatternTiming_effect (h : ownSetPatternTiming c s = .ok a) : Effect i s c a := by
  simp only [ownSetPatternTiming, check_bind_eq_ok, check_pure, Except.ok.injEq, Prod.exists] at h
  obtain ⟨_, _, -, _, _, -, _, -, rfl⟩ := h
  exact .timesSet _ _ _ (Nat.min_le_right ..) (Nat.min_le_right ..)

/-! ## Requests that place entries, and the hold -/

theorem readRun_length {channels : ChannelSet} {n : Nat} {bytes : List Byte} {run : List (Rgb (Option Int))}
    (h : readRun channels n bytes = .ok run) : run.length = n := by
  induction n generalizing bytes run with
  | zero => cases h; rfl
  | succ n ih =>
    simp only [readRun, check_bind_eq_ok, check_pure, Except.ok.injEq, Prod.exists] at h
    obtain ⟨_, _, -, more, hmore, rfl⟩ := h
    rw [List.length_cons, ih hmore]

@[simp] theorem writeEntries_length (row plane column : Nat) (run : List (Rgb (Option Int))) :
    (writeEntries row plane column run).length = run.length := by
  induction run generalizing column with
  | nil => rfl
  | cons v run ih => simp [writeEntries, ih]

/-- Each entry of a run names a knot of the run, and carries a knot's values saturated (R55). -/
theorem mem_writeEntries {row plane column : Nat} {run : List (Rgb (Option Int))} {e : Entry}
    (h : e ∈ writeEntries row plane column run) :
    ∃ k < run.length, ∃ v : Rgb (Option Int), e = .write (column + k) row plane (v.map (Option.map saturate)) := by
  induction run generalizing column with
  | nil => cases h
  | cons v run ih =>
    rcases List.mem_cons.mp h with rfl | h
    · exact ⟨0, by simp, v, rfl⟩
    · obtain ⟨k, hk, w, rfl⟩ := ih h
      exact ⟨k + 1, by simpa using hk, w, by rw [Nat.add_right_comm, Nat.add_assoc]⟩

theorem trimInRange_saturate (v : Int) : trimInRange (saturate v) :=
  clampInt_mem_Icc (by decide) v

theorem valueInRange_map_saturate (v : Option Int) : valueInRange (v.map saturate) := by
  cases v with
  | none => exact fun t h => nomatch h
  | some x => exact fun t h => Option.some.inj h ▸ trimInRange_saturate x

theorem ownWriteKnots_effect (h : ownWriteKnots c s = .ok a) : Effect i s c a := by
  simp only [ownWriteKnots, checkWriteKnots, check_bind_eq_ok, check_pure, Except.ok.injEq, Prod.exists,
    require_eq_ok, checkEditing_eq_ok, Bool.and_eq_true, decide_eq_true_eq] at h
  obtain ⟨_, ⟨d, ⟨-, hd⟩, row, _, -, first, _, -, count, _, -, _, ⟨hpos, -⟩, plane, _, -, _, hp, _, _, -, channels, -,
    _, -, _, ⟨hrow, hlast⟩, _, hroom, rfl⟩, run, hrun, rfl⟩ := h
  have length := readRun_length hrun
  refine .placed _ _ d hd ?_ fun e he => ?_
  · simp only [UpdateQueue.free, Config.updateCapacity] at hroom
    rw [writeEntries_length, length]; dsimp only; omega
  · obtain ⟨k, hk, v, rfl⟩ := mem_writeEntries he
    rw [length] at hk
    exact ⟨⟨by dsimp only at hk hlast ⊢; omega, hrow, hp⟩, ⟨valueInRange_map_saturate _, valueInRange_map_saturate _,
      valueInRange_map_saturate _⟩, rfl⟩

theorem ownAdjustKnot_effect (hl : c.level ≤ 1) (h : ownAdjustKnot c s = .ok a) : Effect i s c a := by
  simp only [ownAdjustKnot, checkAdjustKnot, check_bind_eq_ok, check_pure, Except.ok.injEq, Prod.exists,
    require_eq_ok, checkEditing_eq_ok, Descriptor.holds, Bool.and_eq_true, decide_eq_true_eq] at h
  obtain ⟨_, ⟨d, ⟨ship, hd⟩, column, _, -, row, _, -, plane, _, -, _, hp, _, _, -, _, -, deltas, _, -, _, -, _,
    ⟨hc, hr⟩, _, -, _, hroom, rfl⟩, rfl⟩ := h
  refine .adjusted _ d hd hl ship ?_ ⟨hc, hr, hp⟩ rfl
  simp only [UpdateQueue.free, Config.updateCapacity] at hroom
  omega

theorem checkArea_eq_ok {payload : List Byte} {x : Area} (h : checkArea payload s = .ok x) :
    ∃ d, s.grid.descriptor = some d ∧ x.lastColumn < d.columns ∧ x.lastRow < d.rows ∧ s.queue.entries.length < 256 := by
  simp only [checkArea, check_bind_eq_ok, check_pure, Except.ok.injEq, Prod.exists, require_eq_ok, checkEditing_eq_ok,
    Bool.and_eq_true, decide_eq_true_eq] at h
  obtain ⟨d, ⟨-, hd⟩, _, _, -, _, _, -, _, _, -, _, _, -, _, _, -, _, -, _, ⟨hc, hr⟩, _, hroom, rfl⟩ := h
  simp only [UpdateQueue.free, Config.updateCapacity] at hroom
  exact ⟨d, hd, hc, hr, by omega⟩

theorem ownPinArea_effect (h : ownPinArea c s = .ok a) : Effect i s c a := by
  simp only [ownPinArea, check_bind_eq_ok, check_pure, Except.ok.injEq] at h
  obtain ⟨x, hx, rfl⟩ := h
  obtain ⟨d, hd, hc, hr, hroom⟩ := checkArea_eq_ok hx
  refine .placed _ _ d hd hroom fun e he => ?_
  rw [List.mem_singleton.mp he]
  exact ⟨⟨hc, hr⟩, trivial, rfl⟩

theorem ownUnpinArea_effect (h : ownUnpinArea c s = .ok a) : Effect i s c a := by
  simp only [ownUnpinArea, check_bind_eq_ok, check_pure, Except.ok.injEq] at h
  obtain ⟨x, hx, rfl⟩ := h
  obtain ⟨d, hd, hc, hr, hroom⟩ := checkArea_eq_ok hx
  refine .placed _ _ d hd hroom fun e he => ?_
  rw [List.mem_singleton.mp he]
  exact ⟨⟨hc, hr⟩, trivial, rfl⟩

theorem checkKnot_eq_ok {payload : List Byte} {k : Nat × Nat} (h : checkKnot payload s = .ok k) :
    ∃ d, s.grid.descriptor = some d ∧ k.1 < d.columns ∧ k.2 < d.rows ∧ s.queue.entries.length < 256 := by
  simp only [checkKnot, check_bind_eq_ok, check_pure, Except.ok.injEq, Prod.exists, require_eq_ok, checkEditing_eq_ok,
    Descriptor.holds, Bool.and_eq_true, decide_eq_true_eq] at h
  obtain ⟨d, ⟨-, hd⟩, _, _, -, _, _, -, _, ⟨hc, hr⟩, _, hroom, rfl⟩ := h
  simp only [UpdateQueue.free, Config.updateCapacity] at hroom
  exact ⟨d, hd, hc, hr, by omega⟩

theorem ownRetireKnot_effect (h : ownRetireKnot c s = .ok a) : Effect i s c a := by
  simp only [ownRetireKnot, check_bind_eq_ok, check_pure, Except.ok.injEq] at h
  obtain ⟨k, hk, rfl⟩ := h
  obtain ⟨d, hd, hc, hr, hroom⟩ := checkKnot_eq_ok hk
  refine .placed _ _ d hd hroom fun e he => ?_
  rw [List.mem_singleton.mp he]
  exact ⟨⟨hc, hr⟩, trivial, rfl⟩

theorem ownRestoreKnot_effect (h : ownRestoreKnot c s = .ok a) : Effect i s c a := by
  simp only [ownRestoreKnot, check_bind_eq_ok, check_pure, Except.ok.injEq] at h
  obtain ⟨k, hk, rfl⟩ := h
  obtain ⟨d, hd, hc, hr, hroom⟩ := checkKnot_eq_ok hk
  refine .placed _ _ d hd hroom fun e he => ?_
  rw [List.mem_singleton.mp he]
  exact ⟨⟨hc, hr⟩, trivial, rfl⟩

theorem ownHoldUpdates_effect (h : ownHoldUpdates c s = .ok a) : Effect i s c a := by
  simp only [ownHoldUpdates, check_bind_eq_ok, check_pure, Except.ok.injEq] at h
  obtain ⟨-, -, rfl⟩ := h
  unfold State.holdReply
  split
  · exact .holdSet ..
  · exact .asked ..

theorem ownReleaseUpdates_effect (h : ownReleaseUpdates c s = .ok a) : Effect i s c a := by
  simp only [ownReleaseUpdates, check_bind_eq_ok, check_pure, Except.ok.injEq] at h
  obtain ⟨-, -, rfl⟩ := h
  exact .holdSet ..

theorem ownStepUpdates_effect (h : ownStepUpdates c s = .ok a) : Effect i s c a := by
  simp only [ownStepUpdates, check_bind_eq_ok, check_pure, Except.ok.injEq] at h
  obtain ⟨-, -, -, -, rfl⟩ := h
  exact .holdSet ..

/-! ## The Convergence Unit -/

theorem clampNat_le {lo hi n : Nat} (h : lo ≤ hi) : lo ≤ clampNat lo hi n ∧ clampNat lo hi n ≤ hi := by
  unfold clampNat; omega

theorem LoopParameters.clamp_inRange (l : LoopParameters) : l.clamp.inRange :=
  ⟨clampNat_le (by decide), clampNat_le (by decide), clampNat_le (by decide), clampNat_le (by decide)⟩

theorem ownSetTargets_effect (h : ownSetTargets c s = .ok a) : Effect i s c a := by
  simp only [ownSetTargets, check_bind_eq_ok, check_pure, Except.ok.injEq, Prod.exists] at h
  obtain ⟨_, _, -, _, _, -, _, _, -, _, _, -, _, -, _, -, _, -, _, -, rfl⟩ := h
  exact .targetsSet ..

theorem ownSetConvergence_effect (h : ownSetConvergence c s = .ok a) : Effect i s c a := by
  simp only [ownSetConvergence, check_bind_eq_ok, check_pure, Except.ok.injEq, Prod.exists] at h
  obtain ⟨_, _, -, _, _, -, _, _, -, _, _, -, _, -, rfl⟩ := h
  exact .parametersSet _ _ (LoopParameters.clamp_inRange _)

/-- A check made reading by reading passes when every reading passes it (R69). -/
theorem requireEach_eq_ok {readings : List RawReading} {status : Status} {holds : RawReading → Bool} {u : Unit} :
    requireEach readings status holds = .ok u ↔ ∀ r ∈ readings, holds r = true := by
  unfold requireEach
  split
  · next h => simpa [List.findIdx?_eq_none_iff] using h
  · next k h =>
    obtain ⟨hk, hfails, -⟩ := List.findIdx?_eq_some_iff_getElem.mp h
    simp only [reduceCtorEq, false_iff, not_forall]
    exact ⟨readings[k], List.getElem_mem hk, by simpa using hfails⟩

theorem readReadings_length {n : Nat} {bytes rest : List Byte} {readings : List RawReading}
    (h : readReadings n bytes = .ok (readings, rest)) : readings.length = n := by
  induction n generalizing bytes readings with
  | zero => cases h; rfl
  | succ n ih =>
    simp only [readReadings, check_bind_eq_ok, check_pure, Except.ok.injEq, Prod.exists, Prod.mk.injEq] at h
    obtain ⟨_, _, -, _, _, -, _, _, -, _, -, _, _, -, more, _, hmore, rfl, rfl⟩ := h
    rw [List.length_cons, ih hmore]

theorem ownSubmitReadings_effect (h : ownSubmitReadings c s = .ok a) : Effect i s c a := by
  simp only [ownSubmitReadings, checkSubmitReadings, readBatch, check_bind_eq_ok, check_pure, Except.ok.injEq,
    Prod.exists, require_eq_ok, checkEditing_eq_ok, requireEach_eq_ok, Descriptor.holds, Bool.and_eq_true,
    decide_eq_true_eq] at h
  obtain ⟨_, ⟨d, ⟨-, hd⟩, _, ⟨_, _, -, plane, _, -, _, hp, count, _, -, _, ⟨hpos, -⟩, readings, _, hread, _, -, rfl⟩,
    _, -, _, -, _, -, _, -, _, -, _, hwithin, _, hroom, rfl⟩, rfl⟩ := h
  have length := readReadings_length hread
  simp only [Config.readingCapacity] at hroom
  exact .readingsTaken _ _ d hd (by dsimp only at hroom ⊢; omega) hp hwithin

theorem ownReadConvergence_effect (h : ownReadConvergence c s = .ok a) : Effect i s c a := by
  cases h; exact .convergenceRead _

end Blocks

end Sys2Proof.Machine
end

section
/-! PROOFS. The owning blocks of regions, credentials and modes answer as `Effect` says; what the events do (`Event`), and
everything a command does (`Done`). -/

namespace Sys2Proof.Machine

open Sys2Proof

/-! ## Tables -/

/-- The index found meets the test. -/
theorem findIndex?_test {α : Type} {n : Nat} {v : Vector α n} {test : α → Bool} {k : Fin n}
    (h : findIndex? v test = some k) : test v[k] = true :=
  List.find?_some (p := fun k => test v[k]) h

theorem RegionTable.find?_carries {t : RegionTable} {code : Nat} {k : Fin 8} (h : t.find? code = some k) :
    t.profiles[k].carries code = true :=
  findIndex?_test (v := t.profiles) (test := fun p => p.carries code) h

theorem CredentialTable.serviceElsewhere_eq_false {t : CredentialTable} {k : Fin 16} :
    t.serviceElsewhere k = false ↔ ∀ j : Fin 16, j ≠ k → t.slots[j].class? ≠ some .service := by
  simp [CredentialTable.serviceElsewhere]

theorem RegionTable.carriedElsewhere_eq_false {t : RegionTable} {k : Fin 8} {code : Nat} :
    t.carriedElsewhere k code = false ↔ ∀ j : Fin 8, j ≠ k → t.profiles[j].carries code = false := by
  simp [RegionTable.carriedElsewhere]

theorem Slot.loading?_eq_some {x : Slot} {class_ : KeyClass} {declared : Nat} {data : List Byte} :
    x.loading? = some (class_, declared, data) ↔ x = .loading class_ declared data := by
  cases x <;> simp [Slot.loading?]

section Blocks

variable {i : Instr} {c : Call} {s : State} {a : Answer}

/-! ## Regions -/

theorem ownStoreRegion_effect (h : ownStoreRegion c s = .ok a) : Effect i s c a := by
  simp only [ownStoreRegion, checkStoreRegion, check_bind_eq_ok, check_pure, Except.ok.injEq, Prod.exists, Prod.mk.injEq,
    require_eq_ok, requireSome_eq_ok, codeInRange, RegionTable.carriedElsewhere_eq_false, Bool.not_eq_true',
    Bool.and_eq_true, decide_eq_true_eq, bne_iff_ne] at h
  obtain ⟨k, r, ⟨_, _, -, code, _, -, _, _, -, _, _, -, _, _, -, _, _, -, j, -, _, hcode, _, -, _, -, _, -, _, -, _, free,
    _, -, _, new, rfl, rfl⟩, rfl⟩ := h
  exact .regionStored _ j _ ⟨hcode, clampNat_le (by decide)⟩ free new

theorem ownLookUpRegion_effect (h : ownLookUpRegion c s = .ok a) : Effect i s c a := by
  simp only [ownLookUpRegion, check_bind_eq_ok, check_pure, Except.ok.injEq, Prod.exists] at h
  obtain ⟨_, _, -, _, -, _, -, rfl⟩ := h
  exact .asked ..

theorem ownReadRegions_effect (h : ownReadRegions c s = .ok a) : Effect i s c a := by
  cases h; exact .asked ..

/-- A profile found by its code that is neither ACTIVE nor RETIRED is STORED. -/
theorem Profile.stored_of_carries {p : Profile} {code : Nat} (h : p.carries code = true) (ha : p.isIn .active = false)
    (hr : p.isIn .retired = false) : ∃ r, p = .held .stored r := by
  cases p with
  | empty => simp [Profile.carries] at h
  | held st r =>
    cases st with
    | stored => exact ⟨r, rfl⟩
    | active => simp [Profile.isIn] at ha
    | retired => simp [Profile.isIn] at hr

theorem ownSelectRegion_effect (h : ownSelectRegion c s = .ok a) : Effect i s c a := by
  simp only [ownSelectRegion, check_bind_eq_ok, check_pure, Except.ok.injEq, Prod.exists, require_eq_ok,
    requireSome_eq_ok, Bool.not_eq_true'] at h
  obtain ⟨_, _, -, _, -, _, -, k, hk, _, hr, rfl⟩ := h
  unfold RegionTable.select
  split
  · exact .asked ..
  · next ha =>
    obtain ⟨r, hr⟩ := Profile.stored_of_carries (RegionTable.find?_carries hk) (by simpa using ha) hr
    exact .regionSelected _ k r hr

theorem ownRetireRegion_effect (h : ownRetireRegion c s = .ok a) : Effect i s c a := by
  simp only [ownRetireRegion, check_bind_eq_ok, check_pure, Except.ok.injEq, Prod.exists, require_eq_ok,
    requireSome_eq_ok, Bool.not_eq_true', bne_iff_ne] at h
  obtain ⟨_, _, -, _, -, _, -, k, hk, _, ha, _, free, _, hr, rfl⟩ := h
  obtain ⟨r, hr⟩ := Profile.stored_of_carries (RegionTable.find?_carries hk) ha hr
  rw [show (s.regions.profiles[k].moveTo .retired) = .held .retired r by rw [hr]; rfl]
  exact .regionRetired _ k r hr free

theorem ownEraseRegion_effect (h : ownEraseRegion c s = .ok a) : Effect i s c a := by
  simp only [ownEraseRegion, check_bind_eq_ok, check_pure, Except.ok.injEq, Prod.exists, require_eq_ok,
    bne_iff_ne] at h
  obtain ⟨_, _, -, k, -, _, -, _, -, _, free, rfl⟩ := h
  split
  · exact .asked ..
  · exact .regionErased _ k free

/-! ## Credentials -/

theorem ownBeginLoad_effect (h : ownBeginLoad c s = .ok a) : Effect i s c a := by
  simp only [ownBeginLoad, checkBeginLoad, check_bind_eq_ok, check_pure, Except.ok.injEq, Prod.exists, Prod.mk.injEq,
    require_eq_ok, State.slotsOpen_iff, Bool.and_eq_true, Bool.or_eq_true, decide_eq_true_eq, beq_iff_eq, bne_iff_ne,
    Option.isNone_iff_eq_none, Bool.not_eq_true'] at h
  obtain ⟨_, _, _, ⟨_, _, -, _, _, -, _, _, -, k, -, class_, -, _, ⟨⟨⟨hlow, hhigh⟩, hmod⟩, hservice⟩, _, -, _,
    ⟨idle, write, -⟩, _, -, _, elsewhere, rfl, rfl, rfl⟩, rfl⟩ := h
  exact .loadBegun _ k class_ _ ⟨⟨hlow, hhigh, hmod⟩, fun hc => hservice.resolve_left (absurd hc)⟩ idle write
    fun hc => elsewhere.resolve_left (absurd hc)

theorem ownLoadChunk_effect (h : ownLoadChunk c s = .ok a) : Effect i s c a := by
  unfold ownLoadChunk at h
  split at h
  · simp only [check_bind_eq_ok, check_pure, Except.ok.injEq, Prod.exists, require_eq_ok, requireSome_eq_ok,
      State.slotsOpen_iff, Slot.loading?_eq_some, decide_eq_true_eq] at h
    obtain ⟨k, -, _, -, _, ⟨write, -⟩, class_, declared, received, hk, _, -, _, fits, rfl⟩ := h
    exact .chunkJoined _ k class_ declared received _ hk write fits
  · cases h

theorem ownEndLoad_effect (h : ownEndLoad c s = .ok a) : Effect i s c a := by
  simp only [ownEndLoad, check_bind_eq_ok, Prod.exists, require_eq_ok, requireSome_eq_ok,
      State.slotsOpen_iff, Slot.loading?_eq_some, beq_iff_eq] at h
  obtain ⟨_, _, -, k, -, _, ⟨write, -⟩, class_, declared, data, hk, _, whole, h⟩ := h
  split at h
  · cases h
    exact .loadDropped _ _ k (by rw [hk]; rfl) write
  · cases h
    exact .loadEnded _ k class_ declared data hk write whole

theorem ownAbortLoad_effect (h : ownAbortLoad c s = .ok a) : Effect i s c a := by
  simp only [ownAbortLoad, check_bind_eq_ok, check_pure, Except.ok.injEq, Prod.exists, require_eq_ok,
    State.slotsOpen_iff] at h
  obtain ⟨_, _, -, k, -, _, ⟨write, -⟩, _, hk, rfl⟩ := h
  exact .loadDropped _ _ k hk write

theorem ownReadSlot_effect (h : ownReadSlot c s = .ok a) : Effect i s c a := by
  simp only [ownReadSlot, check_bind_eq_ok, check_pure, Except.ok.injEq, Prod.exists] at h
  obtain ⟨_, _, -, _, -, rfl⟩ := h
  exact .asked ..

theorem ownFetchKey_effect (h : ownFetchKey c s = .ok a) : Effect i s c a := by
  simp only [ownFetchKey, check_bind_eq_ok, check_pure, Except.ok.injEq, Prod.exists] at h
  obtain ⟨_, _, -, _, _, -, _, -, _, -, _, -, _, _, _, -, _, -, _, -, rfl⟩ := h
  exact .asked ..

theorem Slot.class?_of_revocable {x : Slot} {class_ : KeyClass} {declared : Nat} {check : CheckValue}
    (h : x.revocable? = some (class_, declared, check)) : x.class? = some class_ := by
  cases x <;> simp_all [Slot.revocable?, Slot.class?]

theorem ownRevokeSlot_effect (h : ownRevokeSlot c s = .ok a) : Effect i s c a := by
  simp only [ownRevokeSlot, check_bind_eq_ok, Prod.exists, require_eq_ok, requireSome_eq_ok, State.slotsOpen_iff,
    bne_iff_ne] at h
  obtain ⟨_, _, -, k, -, _, ⟨write, ship⟩, _, service, class_, declared, check, hk, h⟩ := h
  have service' : class_ ≠ .service := fun e => service (by rw [Slot.class?_of_revocable hk, e])
  split at h
  · cases h
    exact .revocationBegun k class_ declared check _ hk service' write ship ‹_›
  · cases h
    exact .revoked _ k class_ declared check hk service' write

theorem ownEraseSlot_effect (h : ownEraseSlot c s = .ok a) : Effect i s c a := by
  simp only [ownEraseSlot, check_bind_eq_ok, Prod.exists, require_eq_ok, State.slotsOpen_iff] at h
  obtain ⟨_, _, -, k, -, _, ⟨write, -⟩, h⟩ := h
  cases hk : s.creds.slots[k] with
  | empty => rw [hk] at h; cases h; exact .asked ..
  | loading => rw [hk] at h; cases h
  | bound => rw [hk] at h; cases h
  | loaded => rw [hk] at h; cases h; exact .slotErased _ k (by rw [hk]; rfl) write
  | revoked => rw [hk] at h; cases h; exact .slotErased _ k (by rw [hk]; rfl) write

/-! ## Modes -/

theorem ownSaveImage_effect (h : ownSaveImage c s = .ok a) : Effect i s c a := by
  simp only [ownSaveImage, State.writeRuns, check_bind_eq_ok, check_pure, Except.ok.injEq, require_eq_ok,
    Bool.and_eq_true, Bool.not_eq_true', bne_eq_false_iff_eq] at h
  obtain ⟨_, -, _, ⟨⟨write, ship⟩, -⟩, rfl⟩ := h
  exact .saveBegun _ write ship

/-- Ship is ready only while no write runs (R147, reason 1). -/
theorem State.write_idle_of_ready {force : Bool} (h : s.notReadyReason force = none) : s.store.write = .idle := by
  simp only [State.notReadyReason, State.readiness, State.writeRuns, Option.map_eq_none_iff, List.find?_eq_none,
    List.forall_mem_cons, Bool.not_not, bne_iff_ne, ne_eq, not_not] at h
  exact h.1

theorem ownShip_effect (hl : c.level ≤ 1) (h : ownShip c s = .ok a) : Effect i s c a := by
  simp only [ownShip, check_bind_eq_ok, Prod.exists, require_eq_ok, Bool.not_eq_true', bne_iff_ne] at h
  obtain ⟨_, _, -, _, -, _, mode, _, ship, h⟩ := h
  split at h
  · cases h
  · cases h
    exact .shipped hl mode ship (State.write_idle_of_ready ‹_›)

theorem ownReopen_effect (h : ownReopen c s = .ok a) : Effect i s c a := by
  simp only [ownReopen, check_bind_eq_ok, require_eq_ok, beq_iff_eq, Config.failureLimit] at h
  obtain ⟨_, -, _, -, _, mode, _, -, _, few, h⟩ := h
  split at h
  · cases h; exact .reopened _ mode
  · cases h; exact .reopenFailed _ (of_decide_eq_true few)

end Blocks

/-! ## Events, and the whole of a command -/

/-- What an event of the part or of its surroundings does when it occurs. -/
inductive Event (i : Instr) (s : State) : State → Prop
  | poweredOn (h : isResetEvent i = true) : Event i s s.powerOn
  | resetAsserted (h : isResetEvent i = true) : Event i s s.assertReset
  | resetReleased (h : s.pins.resetAsserted = true) : Event i s s.releaseReset
  | powerLost (h : isResetEvent i = true) : Event i s s.losePower
  | signalAppeared : Event i s s.signalAppears
  | signalLost : Event i s s.signalLost
  | inputJudged (c : InputCondition) : Event i s (s.judgeInput c)
  | frameStarted (h : mayChangeRecords i = true) (supply : s.pins.supply = true) : Event i s (s.frameStart none)
  | inputFrame (h : mayChangeRecords i = true) (supply : s.pins.supply = true) (f : InputFrame) :
      Event i s (s.inputFrame f)
  | guardExpired : Event i s (s.withGuard .stopped)
  | loadAbandoned (l : LoadingContext) (h : s.creds.loading = some l) : Event i s (s.abandonLoad l)
  | holdingEnded (h : s.endDue = true) : Event i s s.takeEnd
  | holdingStarted (h : s.startDue = true) : Event i s s.takeStart
  | examined (q : Reading) (rest : List Reading) (d : Descriptor) (rec : KnotRecord) (supply : s.pins.supply = true)
      (head : s.conv.readings = q :: rest) (room : s.queue.entries.length < 256) (grid : s.grid.descriptor = some d)
      (record : s.grid.record? d q.plane q.row q.column = some rec) : Event i s (s.examineHead q rest rec)
  | saveFinished (result : WriteResult) (x : ImageContents) (hi : i = .saveCompletion result)
      (h : s.store.write = .saving x) : Event i s (s.finishSave result x)
  | revocationFinished (result : WriteResult) (p : PortId) (k : Fin 16) (h : s.store.write = .revoking p k) :
      Event i s (s.finishRevocation result p k)
  | loadCompleted (h : mayChangeRecords i = true) (supply : s.pins.supply = true) (loads : s.store.startUp = .loading) :
      Event i s s.completeLoad

/-- Everything a command does: nothing; a frame lost or answered by its port; a request that reaches its owning block; a
transfer that is no request; an event. -/
inductive Done (i : Instr) (s : State) : State → Prop
  | nothing : Done i s s
  | frameLost (p : PortId) (h : (s.port p).phase = .pending) : Done i s (s.loseFrame p)
  | refused (p : PortId) (tag : Byte) (status : Status) (fields : List Byte) (h : s.listens p) :
      Done i s (s.answered p tag status fields)
  | served (c : Call) (a : Answer) (h : s.listens c.port)
      (ready : s.store.startUp = .ready ∨ ∃ status payload, a = .reply status payload s)
      (level : ∃ b, c.level = s.effectiveLevel c.port b) (effect : Effect i s c a) :
      Done i s (s.settle c.port c.tag (.ok a))
  | ignored (p : PortId) : Done i s (s.ignoreTransfer p)
  | fetched (p : PortId) (n : Nat) : Done i s (s.fetch p n)
  | occurred (t : State) (h : Event i s t) : Done i s t

/-- A request of gate `g` does what its port makes of it or what its owning block answers. -/
theorem serve_done {i : Instr} {s : State} {g : Gate} {p : PortId} {bytes : List Byte}
    {own : Call → State → Check Answer}
    (effect : ∀ c a, c.port = p → c.level ≤ g.level s c.payload → own c s = .ok a → Effect i s c a)
    (ready : g.starting = true → ∀ c a, own c s = .ok a → ∃ status payload, a = .reply status payload s) :
    Done i s (s.serve g p bytes own) := by
  obtain h | ⟨-, hp, h⟩ | ⟨hl, tag, status, h⟩ | ⟨hl, c, rfl, hr, hlevel, hb, -, h⟩ := serve_cases (rfl : s.serve g p bytes own = _)
  · rw [h]; exact .nothing
  · rw [h]; exact .frameLost p hp
  · rw [h]; exact .refused p tag status [] hl
  · rw [h]
    cases ho : own c s with
    | error e => exact .refused _ _ _ _ hl
    | ok a => exact .served c a hl (hr.imp_right fun hg => ready hg c a ho) hb (effect c a rfl hlevel ho)

end Sys2Proof.Machine
end

section
/-! PROOFS. Every command does one of the things `Done` lists, and keeps the commands that wait (O2). -/

namespace Sys2Proof.Machine

open Sys2Proof

theorem whenWellFormed_eq_next {i : Instr} {after t : State} (h : whenWellFormed i after = .next t) : t = after := by
  unfold whenWellFormed at h
  split at h <;> cases h
  rfl

theorem State.serveUnknown_done (i : Instr) (s : State) (p : PortId) (bytes : List Byte) :
    Done i s (s.serveUnknown p bytes) := by
  unfold State.serveUnknown
  split
  · exact .nothing
  · next hd =>
    split
    · next hp => exact .frameLost p hp
    · next hp =>
      have hl : s.listens p := ⟨by simpa using hd, hp⟩
      split
      · exact .refused _ _ _ _ hl
      · exact .refused _ _ _ _ hl

theorem State.inputBegins_done (s : State) (f : InputFrame) : Done (.inputFrameStart f) s (s.inputBegins f) := by
  unfold State.inputBegins
  split
  · exact .nothing
  · next h =>
    simp only [Bool.not_eq_true, Bool.not_eq_false', Bool.and_eq_true] at h
    split
    · exact .occurred _ (.inputFrame rfl h.1 f)
    · exact .occurred _ (.inputJudged _)

theorem State.originBegins_done (s : State) (o : FrameOrigin) : Done (.frameStart o) s (s.originBegins o) := by
  cases o with
  | internal =>
    simp only [State.originBegins]
    split
    · next h => exact .occurred _ (.frameStarted rfl (by simp_all))
    · exact .nothing
  | input f =>
    simp only [State.originBegins]
    split
    · next h => exact .occurred _ (.inputFrame rfl (by simp_all) f)
    · exact .nothing

theorem State.examine_done (i : Instr) (s : State) : Done i s (if s.pins.supply then s.examine else s) := by
  split
  · next supply =>
    unfold State.examine
    split
    · exact .nothing
    · next q rest head =>
      split
      · exact .nothing
      · next room =>
        split
        · exact .nothing
        · next d grid =>
          split
          · exact .nothing
          · next rec record =>
            refine .occurred _ (.examined q rest d rec supply head ?_ grid record)
            simp only [UpdateQueue.free, Config.updateCapacity] at room
            omega
  · exact .nothing

/-- A command that has its effect only where its event occurs (log 2). -/
theorem ite_done {i : Instr} {s u : State} {p : Prop} [Decidable p] (h : p → Event i s u) :
    Done i s (if p then u else s) := by
  split
  · exact .occurred _ (h ‹_›)
  · exact .nothing

/-- Every command does one of the things `Done` lists: a request through its gate and its owning block, a transfer through
its port, an event where it occurs. -/
theorem exec_done {i : Instr} {s t : State} (h : exec i s = .next t) : Done i s t := by
  cases i with
  | readIdentity p b =>
    cases h
    exact serve_done (fun _ _ _ _ h => ownReadIdentity_effect h) (fun _ _ _ h => by cases h; exact ⟨_, _, rfl⟩)
  | readStatus p b =>
    cases h
    exact serve_done (fun _ _ _ _ h => ownReadStatus_effect h) (fun _ _ _ h => by cases h; exact ⟨_, _, rfl⟩)
  | readAttention p b =>
    cases h
    exact serve_done (fun _ _ hp _ h => ownReadAttention_effect (by simp [readsAttention, hp]) h) nofun
  | setAttentionMask p b => cases h; exact serve_done (fun _ _ _ _ h => ownSetAttentionMask_effect h) nofun
  | reset p b => cases h; exact serve_done (fun _ _ _ _ h => ownReset_effect rfl h) nofun
  | defineGrid p b => cases h; exact serve_done (fun _ _ _ _ h => ownDefineGrid_effect rfl h) nofun
  | readDescriptor p b => cases h; exact serve_done (fun _ _ _ _ h => ownReadDescriptor_effect h) nofun
  | readKnots p b => cases h; exact serve_done (fun _ _ _ _ h => ownReadKnots_effect h) nofun
  | writeKnots p b => cases h; exact serve_done (fun _ _ _ _ h => ownWriteKnots_effect h) nofun
  | adjustKnot p b => cases h; exact serve_done (fun _ _ _ hl h => ownAdjustKnot_effect hl h) nofun
  | pinArea p b => cases h; exact serve_done (fun _ _ _ _ h => ownPinArea_effect h) nofun
  | unpinArea p b => cases h; exact serve_done (fun _ _ _ _ h => ownUnpinArea_effect h) nofun
  | retireKnot p b => cases h; exact serve_done (fun _ _ _ _ h => ownRetireKnot_effect h) nofun
  | restoreKnot p b => cases h; exact serve_done (fun _ _ _ _ h => ownRestoreKnot_effect h) nofun
  | readSummary p b => cases h; exact serve_done (fun _ _ _ _ h => ownReadSummary_effect h) nofun
  | setBypass p b => cases h; exact serve_done (fun _ _ _ _ h => ownSetBypass_effect h) nofun
  | holdUpdates p b => cases h; exact serve_done (fun _ _ _ _ h => ownHoldUpdates_effect h) nofun
  | releaseUpdates p b => cases h; exact serve_done (fun _ _ _ _ h => ownReleaseUpdates_effect h) nofun
  | stepUpdates p b => cases h; exact serve_done (fun _ _ _ _ h => ownStepUpdates_effect h) nofun
  | setTargets p b => cases h; exact serve_done (fun _ _ _ _ h => ownSetTargets_effect h) nofun
  | setConvergence p b => cases h; exact serve_done (fun _ _ _ _ h => ownSetConvergence_effect h) nofun
  | submitReadings p b => cases h; exact serve_done (fun _ _ _ _ h => ownSubmitReadings_effect h) nofun
  | readConvergence p b => cases h; exact serve_done (fun _ _ _ _ h => ownReadConvergence_effect h) nofun
  | selectSource p b => cases h; exact serve_done (fun _ _ _ _ h => ownSelectSource_effect h) nofun
  | showPattern p b => cases h; exact serve_done (fun _ _ _ _ h => ownShowPattern_effect h) nofun
  | setPatternTiming p b => cases h; exact serve_done (fun _ _ _ _ h => ownSetPatternTiming_effect h) nofun
  | storeRegion p b => cases h; exact serve_done (fun _ _ _ _ h => ownStoreRegion_effect h) nofun
  | lookUpRegion p b => cases h; exact serve_done (fun _ _ _ _ h => ownLookUpRegion_effect h) nofun
  | selectRegion p b => cases h; exact serve_done (fun _ _ _ _ h => ownSelectRegion_effect h) nofun
  | retireRegion p b => cases h; exact serve_done (fun _ _ _ _ h => ownRetireRegion_effect h) nofun
  | eraseRegion p b => cases h; exact serve_done (fun _ _ _ _ h => ownEraseRegion_effect h) nofun
  | readRegions p b => cases h; exact serve_done (fun _ _ _ _ h => ownReadRegions_effect h) nofun
  | beginLoad p b => cases h; exact serve_done (fun _ _ _ _ h => ownBeginLoad_effect h) nofun
  | loadChunk p b => cases h; exact serve_done (fun _ _ _ _ h => ownLoadChunk_effect h) nofun
  | endLoad p b => cases h; exact serve_done (fun _ _ _ _ h => ownEndLoad_effect h) nofun
  | abortLoad p b => cases h; exact serve_done (fun _ _ _ _ h => ownAbortLoad_effect h) nofun
  | readSlot p b => cases h; exact serve_done (fun _ _ _ _ h => ownReadSlot_effect h) nofun
  | fetchKey p b => cases h; exact serve_done (fun _ _ _ _ h => ownFetchKey_effect h) nofun
  | revokeSlot p b => cases h; exact serve_done (fun _ _ _ _ h => ownRevokeSlot_effect h) nofun
  | eraseSlot p b => cases h; exact serve_done (fun _ _ _ _ h => ownEraseSlot_effect h) nofun
  | saveImage p b => cases h; exact serve_done (fun _ _ _ _ h => ownSaveImage_effect h) nofun
  | ship p b => cases h; exact serve_done (fun _ _ _ hl h => ownShip_effect hl h) nofun
  | reopen p b => cases h; exact serve_done (fun _ _ _ _ h => ownReopen_effect h) nofun
  | unknownRequest p code b => rw [whenWellFormed_eq_next h]; exact s.serveUnknown_done ..
  | ignoredFrame p frame => rw [whenWellFormed_eq_next h]; exact .ignored p
  | fetch p n => cases h; exact .fetched p n
  | ignoredTransaction b => rw [whenWellFormed_eq_next h]; exact .ignored .line
  | powerOnReset => cases h; exact .occurred _ (.poweredOn rfl)
  | resetLineAsserted =>
    cases h
    split
    · exact .nothing
    · exact .occurred _ (.resetAsserted rfl)
  | resetLineReleased => cases h; exact ite_done .resetReleased
  | inputAppears => cases h; exact .occurred _ .signalAppeared
  | inputLost => cases h; exact ite_done fun _ => .signalLost
  | inputFrameStart f => rw [whenWellFormed_eq_next h]; exact s.inputBegins_done f
  | frameStart o => rw [whenWellFormed_eq_next h]; exact s.originBegins_done o
  | guardExpiry => cases h; exact ite_done fun _ => .guardExpired
  | gapExpiry =>
    cases h
    split
    · exact .nothing
    · next l hl =>
      refine .occurred _ (.loadAbandoned l ?_)
      unfold State.gapDue? at hl
      split at hl
      · cases hl
      · next l' h' =>
        split at hl <;> cases hl
        exact h'
  | holdingStart => cases h; exact ite_done .holdingStarted
  | holdingEnd => cases h; exact ite_done .holdingEnded
  | examineReading => cases h; exact s.examine_done _
  | saveCompletion r =>
    cases h
    split
    · next x hx => exact .occurred _ (.saveFinished r x rfl hx)
    · exact .nothing
  | revocationWriteCompletion r =>
    cases h
    split
    · next p k hk => exact .occurred _ (.revocationFinished r p k hk)
    · exact .nothing
  | startUpLoadCompletion => cases h; exact ite_done fun h => .loadCompleted rfl h.1 h.2
  | supplyLost => cases h; exact ite_done fun _ => .powerLost rfl

/-! ## What a command keeps -/

/-- A settled request is what its owning block leaves, with a port replaced. -/
theorem settle_ok_withPort (s : State) (p : PortId) (tag : Byte) (a : Answer) :
    ∃ q, s.settle p tag (.ok a) = a.after.withPort p q := by
  cases a with
  | reply status payload t => exact ⟨_, rfl⟩
  | wait t => exact ⟨_, rfl⟩
  | silent t => exact ⟨t.port p, by cases p <;> rfl⟩

/-- A command keeps what does not speak of the ports, when every owning block and every event does. -/
theorem Done.keeps {good : State → Prop} {i : Instr} {s t : State} (h : Done i s t) (hs : good s)
    (port : ∀ u p q, good u → good (u.withPort p q))
    (effect : ∀ c a, (s.store.startUp = .ready ∧ s.deaf = false ∨ a.after = s) → Effect i s c a → good a.after)
    (event : ∀ u, Event i s u → good u) : good t := by
  cases h with
  | nothing => exact hs
  | frameLost p => exact port _ _ _ hs
  | refused p => exact port _ _ _ hs
  | served c a hl ready level he =>
    obtain ⟨q, hq⟩ := settle_ok_withPort s c.port c.tag a
    rw [hq]
    refine port _ _ _ (effect c a ?_ he)
    rcases ready with ready | ⟨_, _, rfl⟩
    · exact .inl ⟨ready, hl.1⟩
    · exact .inr rfl
  | ignored p =>
    unfold State.ignoreTransfer
    split
    · exact hs
    · exact port _ _ _ hs
  | fetched p n =>
    unfold State.fetch
    dsimp only
    split
    · exact hs
    · split <;> exact port _ _ _ hs
  | occurred _ he => exact event _ he

end Sys2Proof.Machine
end

section
/-! PROOFS. What a whole frame start makes of each field of the state (R110): one equation for each, over the state before
it. The helper definitions name what it decides: whether the queue is applied, what the application makes, whether the load
is abandoned. -/

namespace Sys2Proof.Machine

open Sys2Proof

/-! ## Raising flags -/

/-- A flag raised in both sets when a condition holds (R172). -/
def AttentionUnit.raiseIf (a : AttentionUnit) (c : Bool) (f : Flag) : AttentionUnit := if c then a.raise f else a

theorem State.raiseIf_attention_eq (s : State) (c : Bool) (f : Flag) :
    (s.raiseIf c f).attention = s.attention.raiseIf c f := s.raiseIf_attention c f

theorem Flag.bit_lt (f : Flag) : f.bit < 11 := by cases f <;> decide

theorem Flag.mask_getLsbD (f : Flag) (k : Nat) : f.mask.getLsbD k = (k == f.bit) := by
  have h := f.bit_lt
  rw [Flag.mask, BitVec.getLsbD_ofNat, Nat.testBit_two_pow]
  by_cases e : k = f.bit
  · subst e; simpa using h
  · simp [e, Ne.symm e]

@[simp] theorem AttentionUnit.raiseIf_lineFlags_getLsbD (a : AttentionUnit) (c : Bool) (f : Flag) (k : Nat) :
    (a.raiseIf c f).lineFlags.getLsbD k = (a.lineFlags.getLsbD k || (c && k == f.bit)) := by
  cases c <;> simp [AttentionUnit.raiseIf, AttentionUnit.raise, Flag.mask_getLsbD]

@[simp] theorem AttentionUnit.raiseIf_setFlags_getLsbD (a : AttentionUnit) (c : Bool) (f : Flag) (k : Nat) :
    (a.raiseIf c f).setFlags.getLsbD k = (a.setFlags.getLsbD k || (c && k == f.bit)) := by
  cases c <;> simp [AttentionUnit.raiseIf, AttentionUnit.raise, Flag.mask_getLsbD]

@[simp] theorem AttentionUnit.raiseIf_lineMask (a : AttentionUnit) (c : Bool) (f : Flag) :
    (a.raiseIf c f).lineMask = a.lineMask := by cases c <;> rfl

@[simp] theorem AttentionUnit.raiseIf_setMask (a : AttentionUnit) (c : Bool) (f : Flag) :
    (a.raiseIf c f).setMask = a.setMask := by cases c <;> rfl

@[simp] theorem AttentionUnit.raiseIf_false (a : AttentionUnit) (f : Flag) : a.raiseIf false f = a := rfl

@[simp] theorem AttentionUnit.raiseIf_true (a : AttentionUnit) (f : Flag) : a.raiseIf true f = a.raise f := rfl

theorem State.judgeInput_attention (s : State) (c : InputCondition) :
    (s.judgeInput c).attention = s.attention.raiseIf (c != s.timing.condition) .input :=
  State.raiseIf_attention_eq ..

/-! ## What a frame start decides -/

section FrameStart

variable (s : State)

/-- The frame start applies the queue: nothing suspends it once the guard has added its step, and an entry waits (R43, R45). -/
def State.applies : Bool := !(s.addGuard s.comingStep).suspended && !s.queue.entries.isEmpty

/-- What an application at the coming frame start makes (R43). -/
def State.applied : Application := applyEntries s.grid s.comingNumber s.queue.entries

/-- The coming frame start abandons the load (R133). -/
def State.gapEnds : Bool :=
  match s.creds.loading with
  | none => false
  | some l => Config.gapLimit ≤ l.gap + s.comingStep

/-- The state of a frame start at the decision on application. -/
def State.beforeApplication : State :=
  (({ s.takeSelection with timing := s.takeSelection.timing.advance (familyInForce s.takeSelection.regions) } :
    State).addGap s.comingStep).addGuard s.comingStep

theorem State.beginFrameStart_eq : s.beginFrameStart = s.beforeApplication.decideApplication s.comingNumber := rfl

@[simp] theorem State.beforeApplication_grid : s.beforeApplication.grid = s.grid := by simp [State.beforeApplication]
@[simp] theorem State.beforeApplication_detector : s.beforeApplication.detector = s.detector := by
  simp [State.beforeApplication]
@[simp] theorem State.beforeApplication_linePort : s.beforeApplication.linePort = s.linePort := by
  simp [State.beforeApplication]
@[simp] theorem State.beforeApplication_regions : s.beforeApplication.regions = s.regions.takeEffect := by
  simp [State.beforeApplication]
@[simp] theorem State.beforeApplication_timing :
    s.beforeApplication.timing = s.timing.advance (familyInForce s.regions.takeEffect) := by
  simp [State.beforeApplication]
@[simp] theorem State.beforeApplication_store :
    s.beforeApplication.store = { s.store with dirty := s.store.dirty || s.regions.selection.isSome } := by
  simp [State.beforeApplication, State.takeSelection_store]
@[simp] theorem State.beforeApplication_queue : s.beforeApplication.queue = (s.addGuard s.comingStep).queue := by
  simp [State.beforeApplication, State.addGuard_queue]
@[simp] theorem State.beforeApplication_creds : s.beforeApplication.creds = (s.addGap s.comingStep).creds := by
  simp [State.beforeApplication, State.addGap_creds]

theorem State.takeSelection_attention :
    s.takeSelection.attention = s.attention.raiseIf s.regions.selection.isSome .region := by
  unfold State.takeSelection
  split <;> rename_i h
  · simp [h]
  · rw [State.raiseIf_attention_eq, h]; rfl

theorem State.addGap_attention (u : State) (h : s.creds = u.creds) :
    (s.addGap u.comingStep).attention = s.attention.raiseIf u.gapEnds .load := by
  unfold State.addGap State.gapEnds
  rw [h]
  cases u.creds.loading with
  | none => rfl
  | some l =>
    dsimp only
    split
    · next hg => rw [decide_eq_true hg]; exact State.raiseIf_attention_eq ..
    · next hg => rw [decide_eq_false hg]; rfl

@[simp] theorem State.beforeApplication_attention :
    s.beforeApplication.attention =
      (s.attention.raiseIf s.regions.selection.isSome .region).raiseIf s.gapEnds .load := by
  rw [State.beforeApplication, State.addGuard_attention, State.addGap_attention _ s (by simp)]
  exact congrArg (AttentionUnit.raiseIf · s.gapEnds .load) s.takeSelection_attention

theorem State.addGuard_saveRuns (step : Nat) : (s.addGuard step).saveRuns = s.saveRuns := by
  simp [State.saveRuns]

@[simp] theorem State.beforeApplication_suspended :
    s.beforeApplication.suspended = (s.addGuard s.comingStep).suspended := by
  simp [State.suspended, State.saveRuns]

theorem State.addGuard_entries (step : Nat) : (s.addGuard step).queue.entries = s.queue.entries := by
  rw [State.addGuard_queue]

theorem State.addGuard_hold (step : Nat) : (s.addGuard step).queue.hold = s.queue.hold := by
  rw [State.addGuard_queue]

/-- The first parts of a frame start that applies the queue. -/
theorem State.beginFrameStart_applies (h : s.applies = true) :
    s.beginFrameStart =
      { s.beforeApplication.applyQueue s.comingNumber with
        queue := { (s.addGuard s.comingStep).queue with
          entries := [], hold := if s.queue.hold = .stepPending then .held else s.queue.hold } } := by
  simp only [State.applies, Bool.and_eq_true, Bool.not_eq_true', List.isEmpty_eq_false_iff] at h
  rw [State.beginFrameStart_eq, State.decideApplication_some]
  · simp [State.addGuard_hold]
  · simpa using h.1
  · simpa [State.addGuard_entries] using h.2

/-- The first parts of a frame start that does not apply the queue. -/
theorem State.beginFrameStart_not_applies (h : s.applies = false) : s.beginFrameStart = s.beforeApplication := by
  rw [State.beginFrameStart_eq, State.decideApplication_none]
  simp only [State.applies, Bool.and_eq_false_iff, Bool.not_eq_false', List.isEmpty_iff] at h
  simpa [State.addGuard_entries] using h

/-- What a frame start makes of the first parts' state, once their guard, port, grid and flags are known. -/
theorem State.frameStart_eq (input : Option InputFrame) :
    s.frameStart input =
      ((s.beginFrameStart.withDetection s.verdictLeft.state).report s.verdictLeft).beginFrame s.comingStep input := rfl

/-! ## The fields after a frame start -/

variable (input : Option InputFrame)

theorem State.frameStart_grid :
    (s.frameStart input).grid =
      if s.applies then { s.applied.grid with allConverged := s.applied.grid.judge } else s.grid := by
  rw [State.frameStart_eq]
  cases h : s.applies
  · simp [State.beginFrameStart_not_applies, h]
  · simp [State.beginFrameStart_applies, h, State.applied, State.addGuard_entries]

theorem State.frameStart_linePort :
    (s.frameStart input).linePort =
      if s.applies then
        match s.applied.reply with
        | none => s.linePort
        | some (status, fields) =>
          { s.linePort with
            phase := .ready, slot := some { status := status, tag := s.linePort.tag, payload := fields } }
      else s.linePort := by
  rw [State.frameStart_eq]
  cases h : s.applies
  · simp [State.beginFrameStart_not_applies, h]
  · rw [State.beginFrameStart_applies s h, if_pos rfl]
    have reply : (applyEntries s.beforeApplication.grid s.comingNumber s.beforeApplication.queue.entries).reply =
        s.applied.reply := by simp [State.applied, State.addGuard_entries]
    simp only [State.beginFrame_linePort, State.report_linePort, State.withDetection_linePort, State.applyQueue_linePort,
      State.beforeApplication_linePort]
    rewrite [reply]
    cases s.applied.reply <;> rfl

@[simp] theorem State.frameStart_regions : (s.frameStart input).regions = s.regions.takeEffect := by
  rw [State.frameStart_eq]
  cases h : s.applies
  · simp [State.beginFrameStart_not_applies, h]
  · simp [State.beginFrameStart_applies, h]

@[simp] theorem State.frameStart_creds : (s.frameStart input).creds = (s.addGap s.comingStep).creds := by
  rw [State.frameStart_eq]
  cases h : s.applies
  · simp [State.beginFrameStart_not_applies, h]
  · simp [State.beginFrameStart_applies, h]

theorem State.frameStart_store :
    (s.frameStart input).store =
      { s.store with
        dirty := s.store.dirty || s.regions.selection.isSome || (s.applies && s.applied.dirty) } := by
  rw [State.frameStart_eq]
  cases h : s.applies
  · simp [State.beginFrameStart_not_applies, h]
  · simp [State.beginFrameStart_applies, h, State.applied, State.addGuard_entries]

@[simp] theorem State.frameStart_detector :
    (s.frameStart input).detector = { s.detector with state := s.verdictLeft.state } := by
  simp [State.frameStart_eq]

@[simp] theorem State.frameStart_generator : (s.frameStart input).generator = s.generator.takeSource := by
  simp [State.frameStart_eq]

@[simp] theorem State.frameStart_book :
    (s.frameStart input).book = { s.book with judgement := .notTaken, guardFresh := false } := by
  simp [State.frameStart_eq, State.beginFrame]

theorem State.report_queue (v : Verdict) :
    (s.report v).queue =
      { s.queue with
        guard :=
          if v.starts then (if s.detector.guardTime = 0 then .stopped else .running 0)
          else if v.ends then .stopped else s.queue.guard } := by
  cases he : v.ends <;> cases hs : v.starts <;>
    simp [State.report, he, hs, State.reportStart, State.reportEnd, State.guardReport]

theorem State.report_attention (v : Verdict) :
    (s.report v).attention = (s.attention.raiseIf v.ends .held).raiseIf v.starts .held := by
  cases he : v.ends <;> cases hs : v.starts <;>
    simp [State.report, he, hs, State.reportStart, State.reportEnd, State.guardReport, State.withGuard,
      State.raiseIf_attention_eq]

/-- The Update Queue after a frame start: emptied by an application, a pending step spent by it, the guard as the reports of
holding leave it (R43, R49, R50, R52). -/
theorem State.frameStart_queue :
    (s.frameStart input).queue =
      { entries := if s.applies then [] else s.queue.entries
        hold := if s.applies ∧ s.queue.hold = .stepPending then .held else s.queue.hold
        guard :=
          if s.verdictLeft.starts then (if s.detector.guardTime = 0 then .stopped else .running 0)
          else if s.verdictLeft.ends then .stopped else (s.addGuard s.comingStep).queue.guard } := by
  rw [State.frameStart_eq, State.beginFrame_queue, State.report_queue]
  cases h : s.applies
  · simp [State.beginFrameStart_not_applies, h, State.addGuard_entries, State.addGuard_hold, State.withDetection]
  · simp [State.beginFrameStart_applies, h, State.withDetection]

theorem State.applyQueue_attention (frame : FrameNumber) :
    (s.applyQueue frame).attention =
      s.attention.raiseIf ((applyEntries s.grid frame s.queue.entries).grid.judge !=
        (applyEntries s.grid frame s.queue.entries).grid.allConverged) .converged := by
  unfold State.applyQueue
  dsimp only
  rw [State.judgeConverged, State.raiseIf_attention_eq]
  split <;> split <;> simp

@[simp] theorem applyEntries_allConverged (g : GridStore) (frame : FrameNumber) (entries : List Entry) :
    (applyEntries g frame entries).grid.allConverged = g.allConverged :=
  applyEntries_keeps (fun a => a.grid.allConverged = g.allConverged) g frame entries rfl
    (fun _ _ _ _ _ h => by simpa using h)

/-- The flags a frame start raises: REGION by a selection that takes effect, LOAD by an abandoned load, CONVERGED by an
application that changes ALL_CONVERGED, HELD by each report of holding (R15, R103, R120, R133). -/
theorem State.frameStart_attention :
    (s.frameStart input).attention =
      ((((s.attention.raiseIf s.regions.selection.isSome .region).raiseIf s.gapEnds .load).raiseIf
        (s.applies && s.applied.grid.judge != s.grid.allConverged) .converged).raiseIf
          s.verdictLeft.ends .held).raiseIf s.verdictLeft.starts .held := by
  rw [State.frameStart_eq, State.beginFrame_attention, State.report_attention, State.withDetection_attention]
  cases h : s.applies
  · simp [State.beginFrameStart_not_applies, h]
  · simp [State.beginFrameStart_applies, h, State.applied, State.applyQueue_attention, State.addGuard_entries]

theorem State.beginFrameStart_timing :
    s.beginFrameStart.timing = s.timing.advance (familyInForce s.regions.takeEffect) := by
  cases h : s.applies
  · simp [State.beginFrameStart_not_applies, h]
  · simp [State.beginFrameStart_applies, h]

@[simp] theorem State.frameStart_isReady : (s.frameStart input).isReady = s.isReady := by
  simp [State.isReady, State.frameStart_store]

/-- The frame settings a frame start latches (R23), over the fields it leaves. -/
theorem State.frameStart_engine :
    (s.frameStart input).engine =
      if s.isReady then
        let bypass := effectiveBypass s.engine.lineBypass s.engine.viewerBypass s.regions.takeEffect.active?
        { s.engine with
          treatment := chooseTreatment s.generator.requested s.pins.signal bypass s.grid.descriptor
            (input.map (fun f => (f.width, f.height)))
          latched := s.grid.descriptor
          ceiling := ceilingOf s.regions.takeEffect.active?
          bypass := bypass }
      else { s.engine with treatment := .starting, latched := none, ceiling := 1023, bypass := false } := by
  have ready : s.beginFrameStart.isReady = s.isReady := by
    cases h : s.applies
    · simp [State.beginFrameStart_not_applies, h, State.isReady]
    · simp [State.beginFrameStart_applies, h, State.isReady]
  have regions : s.beginFrameStart.regions = s.regions.takeEffect := by
    cases h : s.applies
    · simp [State.beginFrameStart_not_applies, h]
    · simp [State.beginFrameStart_applies, h]
  have grid : s.beginFrameStart.grid.descriptor = s.grid.descriptor := by
    cases h : s.applies
    · simp [State.beginFrameStart_not_applies, h]
    · simp [State.beginFrameStart_applies, h]
  rw [State.frameStart_eq, State.beginFrame]
  simp only [State.latchSettings_engine]
  simp only [State.isReady] at ready ⊢
  simp [ready, regions, grid, PatternGenerator.takeSource]

/-- The frame a frame start begins (R113). -/
theorem State.frameStart_frame :
    (s.frameStart input).timing.frame =
      let content := contentBegun s.generator.requested s.pins.signal input
      let size := sizeBegun (s.frameStart input).engine content
      some { content := content, width := size.1, height := size.2, step := s.comingStep, begunReady := s.isReady,
             cutOff := false } := by
  have ready : s.beginFrameStart.isReady = s.isReady := by
    cases h : s.applies
    · simp [State.beginFrameStart_not_applies, h, State.isReady]
    · simp [State.beginFrameStart_applies, h, State.isReady]
  have e := State.beginFrame_frame ((s.beginFrameStart.withDetection s.verdictLeft.state).report s.verdictLeft)
    s.comingStep input
  simp only [State.isReady] at ready
  simpa [State.frameStart_eq, State.isReady, ready] using e

theorem State.frameStart_timing :
    (s.frameStart input).timing =
      { s.timing.advance (familyInForce s.regions.takeEffect) with
        source := timingSourceBegun s.generator.requested input
        frame := (s.frameStart input).timing.frame
        internalTail := false } := by
  simp [State.frameStart_eq, State.beginFrame, State.beginFrameStart_timing, PatternGenerator.takeSource]

end FrameStart

end Sys2Proof.Machine
end

section
/-! PROOFS. What the events leave of the state: one lemma for each field an event does not touch, as Laws/State has them for
the updates; then what the events make of the fields they do. -/

namespace Sys2Proof.Machine

open Sys2Proof

section Events

variable (s : State)

/-! ### `State.takeShip` -/

@[simp] theorem State.takeShip_pending : s.takeShip.pending = s.pending := by
  unfold State.takeShip; dsimp only; split <;> simp
@[simp] theorem State.takeShip_pins : s.takeShip.pins = s.pins := by
  unfold State.takeShip; dsimp only; split <;> simp
@[simp] theorem State.takeShip_grid : s.takeShip.grid = s.grid := by
  unfold State.takeShip; dsimp only; split <;> simp
@[simp] theorem State.takeShip_conv : s.takeShip.conv = s.conv := by
  unfold State.takeShip; dsimp only; split <;> simp
@[simp] theorem State.takeShip_detector : s.takeShip.detector = s.detector := by
  unfold State.takeShip; dsimp only; split <;> simp
@[simp] theorem State.takeShip_timing : s.takeShip.timing = s.timing := by
  unfold State.takeShip; dsimp only; split <;> simp
@[simp] theorem State.takeShip_regions : s.takeShip.regions = s.regions := by
  unfold State.takeShip; dsimp only; split <;> simp
@[simp] theorem State.takeShip_linePort : s.takeShip.linePort = s.linePort := by
  unfold State.takeShip; dsimp only; split <;> simp
@[simp] theorem State.takeShip_setPort : s.takeShip.setPort = s.setPort := by
  unfold State.takeShip; dsimp only; split <;> simp
@[simp] theorem State.takeShip_attention : s.takeShip.attention = s.attention := by
  unfold State.takeShip; dsimp only; split <;> simp
@[simp] theorem State.takeShip_book : s.takeShip.book = s.book := by
  unfold State.takeShip; dsimp only; split <;> simp

/-! ### `State.beginRevocation` -/

@[simp] theorem State.beginRevocation_pending (c : ImageContents) (p : PortId) (k : Fin 16) : (s.beginRevocation c p k).pending = s.pending := by
  rfl
@[simp] theorem State.beginRevocation_pins (c : ImageContents) (p : PortId) (k : Fin 16) : (s.beginRevocation c p k).pins = s.pins := by
  rfl
@[simp] theorem State.beginRevocation_grid (c : ImageContents) (p : PortId) (k : Fin 16) : (s.beginRevocation c p k).grid = s.grid := by
  rfl
@[simp] theorem State.beginRevocation_queue (c : ImageContents) (p : PortId) (k : Fin 16) : (s.beginRevocation c p k).queue = s.queue := by
  rfl
@[simp] theorem State.beginRevocation_engine (c : ImageContents) (p : PortId) (k : Fin 16) : (s.beginRevocation c p k).engine = s.engine := by
  rfl
@[simp] theorem State.beginRevocation_conv (c : ImageContents) (p : PortId) (k : Fin 16) : (s.beginRevocation c p k).conv = s.conv := by
  rfl
@[simp] theorem State.beginRevocation_generator (c : ImageContents) (p : PortId) (k : Fin 16) : (s.beginRevocation c p k).generator = s.generator := by
  rfl
@[simp] theorem State.beginRevocation_detector (c : ImageContents) (p : PortId) (k : Fin 16) : (s.beginRevocation c p k).detector = s.detector := by
  rfl
@[simp] theorem State.beginRevocation_timing (c : ImageContents) (p : PortId) (k : Fin 16) : (s.beginRevocation c p k).timing = s.timing := by
  rfl
@[simp] theorem State.beginRevocation_regions (c : ImageContents) (p : PortId) (k : Fin 16) : (s.beginRevocation c p k).regions = s.regions := by
  rfl
@[simp] theorem State.beginRevocation_creds (c : ImageContents) (p : PortId) (k : Fin 16) : (s.beginRevocation c p k).creds = s.creds := by
  rfl
@[simp] theorem State.beginRevocation_modes (c : ImageContents) (p : PortId) (k : Fin 16) : (s.beginRevocation c p k).modes = s.modes := by
  rfl
@[simp] theorem State.beginRevocation_linePort (c : ImageContents) (p : PortId) (k : Fin 16) : (s.beginRevocation c p k).linePort = s.linePort := by
  rfl
@[simp] theorem State.beginRevocation_setPort (c : ImageContents) (p : PortId) (k : Fin 16) : (s.beginRevocation c p k).setPort = s.setPort := by
  rfl
@[simp] theorem State.beginRevocation_attention (c : ImageContents) (p : PortId) (k : Fin 16) : (s.beginRevocation c p k).attention = s.attention := by
  rfl

/-! ### `State.shipEndsOk` -/

@[simp] theorem State.shipEndsOk_pending : s.shipEndsOk.pending = s.pending := by
  simp [State.shipEndsOk]
@[simp] theorem State.shipEndsOk_pins : s.shipEndsOk.pins = s.pins := by
  simp [State.shipEndsOk]
@[simp] theorem State.shipEndsOk_grid : s.shipEndsOk.grid = s.grid := by
  simp [State.shipEndsOk]
@[simp] theorem State.shipEndsOk_queue : s.shipEndsOk.queue = s.queue := by
  simp [State.shipEndsOk]
@[simp] theorem State.shipEndsOk_engine : s.shipEndsOk.engine = s.engine := by
  simp [State.shipEndsOk]
@[simp] theorem State.shipEndsOk_conv : s.shipEndsOk.conv = s.conv := by
  simp [State.shipEndsOk]
@[simp] theorem State.shipEndsOk_generator : s.shipEndsOk.generator = s.generator := by
  simp [State.shipEndsOk]
@[simp] theorem State.shipEndsOk_detector : s.shipEndsOk.detector = s.detector := by
  simp [State.shipEndsOk]
@[simp] theorem State.shipEndsOk_timing : s.shipEndsOk.timing = s.timing := by
  simp [State.shipEndsOk]
@[simp] theorem State.shipEndsOk_regions : s.shipEndsOk.regions = s.regions := by
  simp [State.shipEndsOk]
@[simp] theorem State.shipEndsOk_creds : s.shipEndsOk.creds = s.creds := by
  simp [State.shipEndsOk]
@[simp] theorem State.shipEndsOk_store : s.shipEndsOk.store = s.store := by
  simp [State.shipEndsOk]
@[simp] theorem State.shipEndsOk_attention : s.shipEndsOk.attention = s.attention := by
  simp [State.shipEndsOk]
@[simp] theorem State.shipEndsOk_book : s.shipEndsOk.book = s.book := by
  simp [State.shipEndsOk]

/-! ### `State.shipEndsFault` -/

@[simp] theorem State.shipEndsFault_pending : s.shipEndsFault.pending = s.pending := by
  simp [State.shipEndsFault]
@[simp] theorem State.shipEndsFault_pins : s.shipEndsFault.pins = s.pins := by
  simp [State.shipEndsFault]
@[simp] theorem State.shipEndsFault_grid : s.shipEndsFault.grid = s.grid := by
  simp [State.shipEndsFault]
@[simp] theorem State.shipEndsFault_queue : s.shipEndsFault.queue = s.queue := by
  simp [State.shipEndsFault]
@[simp] theorem State.shipEndsFault_engine : s.shipEndsFault.engine = s.engine := by
  simp [State.shipEndsFault]
@[simp] theorem State.shipEndsFault_conv : s.shipEndsFault.conv = s.conv := by
  simp [State.shipEndsFault]
@[simp] theorem State.shipEndsFault_generator : s.shipEndsFault.generator = s.generator := by
  simp [State.shipEndsFault]
@[simp] theorem State.shipEndsFault_detector : s.shipEndsFault.detector = s.detector := by
  simp [State.shipEndsFault]
@[simp] theorem State.shipEndsFault_timing : s.shipEndsFault.timing = s.timing := by
  simp [State.shipEndsFault]
@[simp] theorem State.shipEndsFault_regions : s.shipEndsFault.regions = s.regions := by
  simp [State.shipEndsFault]
@[simp] theorem State.shipEndsFault_store : s.shipEndsFault.store = s.store := by
  simp [State.shipEndsFault]
@[simp] theorem State.shipEndsFault_attention : s.shipEndsFault.attention = s.attention := by
  simp [State.shipEndsFault]
@[simp] theorem State.shipEndsFault_book : s.shipEndsFault.book = s.book := by
  simp [State.shipEndsFault]

/-! ### `State.finishSave` -/

@[simp] theorem State.finishSave_pending (result : WriteResult) (x : ImageContents) : (s.finishSave result x).pending = s.pending := by
  cases result <;> simp only [State.finishSave] <;> split <;> simp
@[simp] theorem State.finishSave_pins (result : WriteResult) (x : ImageContents) : (s.finishSave result x).pins = s.pins := by
  cases result <;> simp only [State.finishSave] <;> split <;> simp
@[simp] theorem State.finishSave_grid (result : WriteResult) (x : ImageContents) : (s.finishSave result x).grid = s.grid := by
  cases result <;> simp only [State.finishSave] <;> split <;> simp
@[simp] theorem State.finishSave_queue (result : WriteResult) (x : ImageContents) : (s.finishSave result x).queue = s.queue := by
  cases result <;> simp only [State.finishSave] <;> split <;> simp
@[simp] theorem State.finishSave_engine (result : WriteResult) (x : ImageContents) : (s.finishSave result x).engine = s.engine := by
  cases result <;> simp only [State.finishSave] <;> split <;> simp
@[simp] theorem State.finishSave_conv (result : WriteResult) (x : ImageContents) : (s.finishSave result x).conv = s.conv := by
  cases result <;> simp only [State.finishSave] <;> split <;> simp
@[simp] theorem State.finishSave_generator (result : WriteResult) (x : ImageContents) : (s.finishSave result x).generator = s.generator := by
  cases result <;> simp only [State.finishSave] <;> split <;> simp
@[simp] theorem State.finishSave_detector (result : WriteResult) (x : ImageContents) : (s.finishSave result x).detector = s.detector := by
  cases result <;> simp only [State.finishSave] <;> split <;> simp
@[simp] theorem State.finishSave_timing (result : WriteResult) (x : ImageContents) : (s.finishSave result x).timing = s.timing := by
  cases result <;> simp only [State.finishSave] <;> split <;> simp
@[simp] theorem State.finishSave_regions (result : WriteResult) (x : ImageContents) : (s.finishSave result x).regions = s.regions := by
  cases result <;> simp only [State.finishSave] <;> split <;> simp
@[simp] theorem State.finishSave_book (result : WriteResult) (x : ImageContents) : (s.finishSave result x).book = s.book := by
  cases result <;> simp only [State.finishSave] <;> split <;> simp

/-! ### `State.finishRevocation` -/

@[simp] theorem State.finishRevocation_pending (result : WriteResult) (p : PortId) (k : Fin 16) : (s.finishRevocation result p k).pending = s.pending := by
  cases result <;> simp [State.finishRevocation]
@[simp] theorem State.finishRevocation_pins (result : WriteResult) (p : PortId) (k : Fin 16) : (s.finishRevocation result p k).pins = s.pins := by
  cases result <;> simp [State.finishRevocation]
@[simp] theorem State.finishRevocation_grid (result : WriteResult) (p : PortId) (k : Fin 16) : (s.finishRevocation result p k).grid = s.grid := by
  cases result <;> simp [State.finishRevocation]
@[simp] theorem State.finishRevocation_queue (result : WriteResult) (p : PortId) (k : Fin 16) : (s.finishRevocation result p k).queue = s.queue := by
  cases result <;> simp [State.finishRevocation]
@[simp] theorem State.finishRevocation_engine (result : WriteResult) (p : PortId) (k : Fin 16) : (s.finishRevocation result p k).engine = s.engine := by
  cases result <;> simp [State.finishRevocation]
@[simp] theorem State.finishRevocation_conv (result : WriteResult) (p : PortId) (k : Fin 16) : (s.finishRevocation result p k).conv = s.conv := by
  cases result <;> simp [State.finishRevocation]
@[simp] theorem State.finishRevocation_generator (result : WriteResult) (p : PortId) (k : Fin 16) : (s.finishRevocation result p k).generator = s.generator := by
  cases result <;> simp [State.finishRevocation]
@[simp] theorem State.finishRevocation_detector (result : WriteResult) (p : PortId) (k : Fin 16) : (s.finishRevocation result p k).detector = s.detector := by
  cases result <;> simp [State.finishRevocation]
@[simp] theorem State.finishRevocation_timing (result : WriteResult) (p : PortId) (k : Fin 16) : (s.finishRevocation result p k).timing = s.timing := by
  cases result <;> simp [State.finishRevocation]
@[simp] theorem State.finishRevocation_regions (result : WriteResult) (p : PortId) (k : Fin 16) : (s.finishRevocation result p k).regions = s.regions := by
  cases result <;> simp [State.finishRevocation]
@[simp] theorem State.finishRevocation_creds (result : WriteResult) (p : PortId) (k : Fin 16) : (s.finishRevocation result p k).creds = s.creds := by
  cases result <;> simp [State.finishRevocation]
@[simp] theorem State.finishRevocation_modes (result : WriteResult) (p : PortId) (k : Fin 16) : (s.finishRevocation result p k).modes = s.modes := by
  cases result <;> simp [State.finishRevocation]
@[simp] theorem State.finishRevocation_attention (result : WriteResult) (p : PortId) (k : Fin 16) : (s.finishRevocation result p k).attention = s.attention := by
  cases result <;> simp [State.finishRevocation]
@[simp] theorem State.finishRevocation_book (result : WriteResult) (p : PortId) (k : Fin 16) : (s.finishRevocation result p k).book = s.book := by
  cases result <;> simp [State.finishRevocation]

/-! ### `State.completeLoad` -/

@[simp] theorem State.completeLoad_pending : s.completeLoad.pending = s.pending := by
  unfold State.completeLoad; dsimp only; split <;> simp
@[simp] theorem State.completeLoad_pins : s.completeLoad.pins = s.pins := by
  unfold State.completeLoad; dsimp only; split <;> simp
@[simp] theorem State.completeLoad_queue : s.completeLoad.queue = s.queue := by
  unfold State.completeLoad; dsimp only; split <;> simp
@[simp] theorem State.completeLoad_engine : s.completeLoad.engine = s.engine := by
  unfold State.completeLoad; dsimp only; split <;> simp
@[simp] theorem State.completeLoad_conv : s.completeLoad.conv = s.conv := by
  unfold State.completeLoad; dsimp only; split <;> simp
@[simp] theorem State.completeLoad_generator : s.completeLoad.generator = s.generator := by
  unfold State.completeLoad; dsimp only; split <;> simp
@[simp] theorem State.completeLoad_detector : s.completeLoad.detector = s.detector := by
  unfold State.completeLoad; dsimp only; split <;> simp
@[simp] theorem State.completeLoad_timing : s.completeLoad.timing = s.timing := by
  unfold State.completeLoad; dsimp only; split <;> simp
@[simp] theorem State.completeLoad_modes : s.completeLoad.modes = s.modes := by
  unfold State.completeLoad; dsimp only; split <;> simp
@[simp] theorem State.completeLoad_linePort : s.completeLoad.linePort = s.linePort := by
  unfold State.completeLoad; dsimp only; split <;> simp
@[simp] theorem State.completeLoad_setPort : s.completeLoad.setPort = s.setPort := by
  unfold State.completeLoad; dsimp only; split <;> simp
@[simp] theorem State.completeLoad_book : s.completeLoad.book = s.book := by
  unfold State.completeLoad; dsimp only; split <;> simp

/-! ### `State.loseSight` -/

@[simp] theorem State.loseSight_pending : s.loseSight.pending = s.pending := by
  unfold State.loseSight; dsimp only; split <;> simp
@[simp] theorem State.loseSight_pins : s.loseSight.pins = s.pins := by
  unfold State.loseSight; dsimp only; split <;> simp
@[simp] theorem State.loseSight_grid : s.loseSight.grid = s.grid := by
  unfold State.loseSight; dsimp only; split <;> simp
@[simp] theorem State.loseSight_engine : s.loseSight.engine = s.engine := by
  unfold State.loseSight; dsimp only; split <;> simp
@[simp] theorem State.loseSight_conv : s.loseSight.conv = s.conv := by
  unfold State.loseSight; dsimp only; split <;> simp
@[simp] theorem State.loseSight_generator : s.loseSight.generator = s.generator := by
  unfold State.loseSight; dsimp only; split <;> simp
@[simp] theorem State.loseSight_timing : s.loseSight.timing = s.timing := by
  unfold State.loseSight; dsimp only; split <;> simp
@[simp] theorem State.loseSight_regions : s.loseSight.regions = s.regions := by
  unfold State.loseSight; dsimp only; split <;> simp
@[simp] theorem State.loseSight_creds : s.loseSight.creds = s.creds := by
  unfold State.loseSight; dsimp only; split <;> simp
@[simp] theorem State.loseSight_modes : s.loseSight.modes = s.modes := by
  unfold State.loseSight; dsimp only; split <;> simp
@[simp] theorem State.loseSight_store : s.loseSight.store = s.store := by
  unfold State.loseSight; dsimp only; split <;> simp
@[simp] theorem State.loseSight_linePort : s.loseSight.linePort = s.linePort := by
  unfold State.loseSight; dsimp only; split <;> simp
@[simp] theorem State.loseSight_setPort : s.loseSight.setPort = s.setPort := by
  unfold State.loseSight; dsimp only; split <;> simp
@[simp] theorem State.loseSight_book : s.loseSight.book = s.book := by
  unfold State.loseSight; dsimp only; split <;> simp

/-! ### `State.signalLost` -/

@[simp] theorem State.signalLost_pending : s.signalLost.pending = s.pending := by
  unfold State.signalLost; dsimp only; split; · split <;> simp
  · rfl
@[simp] theorem State.signalLost_grid : s.signalLost.grid = s.grid := by
  unfold State.signalLost; dsimp only; split; · split <;> simp
  · rfl
@[simp] theorem State.signalLost_engine : s.signalLost.engine = s.engine := by
  unfold State.signalLost; dsimp only; split; · split <;> simp
  · rfl
@[simp] theorem State.signalLost_conv : s.signalLost.conv = s.conv := by
  unfold State.signalLost; dsimp only; split; · split <;> simp
  · rfl
@[simp] theorem State.signalLost_generator : s.signalLost.generator = s.generator := by
  unfold State.signalLost; dsimp only; split; · split <;> simp
  · rfl
@[simp] theorem State.signalLost_regions : s.signalLost.regions = s.regions := by
  unfold State.signalLost; dsimp only; split; · split <;> simp
  · rfl
@[simp] theorem State.signalLost_creds : s.signalLost.creds = s.creds := by
  unfold State.signalLost; dsimp only; split; · split <;> simp
  · rfl
@[simp] theorem State.signalLost_modes : s.signalLost.modes = s.modes := by
  unfold State.signalLost; dsimp only; split; · split <;> simp
  · rfl
@[simp] theorem State.signalLost_store : s.signalLost.store = s.store := by
  unfold State.signalLost; dsimp only; split; · split <;> simp
  · rfl
@[simp] theorem State.signalLost_linePort : s.signalLost.linePort = s.linePort := by
  unfold State.signalLost; dsimp only; split; · split <;> simp
  · rfl
@[simp] theorem State.signalLost_setPort : s.signalLost.setPort = s.setPort := by
  unfold State.signalLost; dsimp only; split; · split <;> simp
  · rfl
@[simp] theorem State.signalLost_book : s.signalLost.book = s.book := by
  unfold State.signalLost; dsimp only; split; · split <;> simp
  · rfl

/-! ### `State.takeEnd` -/

@[simp] theorem State.takeEnd_pending : s.takeEnd.pending = s.pending := by
  simp [State.takeEnd]
@[simp] theorem State.takeEnd_pins : s.takeEnd.pins = s.pins := by
  simp [State.takeEnd]
@[simp] theorem State.takeEnd_grid : s.takeEnd.grid = s.grid := by
  simp [State.takeEnd]
@[simp] theorem State.takeEnd_engine : s.takeEnd.engine = s.engine := by
  simp [State.takeEnd]
@[simp] theorem State.takeEnd_conv : s.takeEnd.conv = s.conv := by
  simp [State.takeEnd]
@[simp] theorem State.takeEnd_generator : s.takeEnd.generator = s.generator := by
  simp [State.takeEnd]
@[simp] theorem State.takeEnd_timing : s.takeEnd.timing = s.timing := by
  simp [State.takeEnd]
@[simp] theorem State.takeEnd_regions : s.takeEnd.regions = s.regions := by
  simp [State.takeEnd]
@[simp] theorem State.takeEnd_creds : s.takeEnd.creds = s.creds := by
  simp [State.takeEnd]
@[simp] theorem State.takeEnd_modes : s.takeEnd.modes = s.modes := by
  simp [State.takeEnd]
@[simp] theorem State.takeEnd_store : s.takeEnd.store = s.store := by
  simp [State.takeEnd]
@[simp] theorem State.takeEnd_linePort : s.takeEnd.linePort = s.linePort := by
  simp [State.takeEnd]
@[simp] theorem State.takeEnd_setPort : s.takeEnd.setPort = s.setPort := by
  simp [State.takeEnd]

/-! ### `State.takeStart` -/

@[simp] theorem State.takeStart_pending : s.takeStart.pending = s.pending := by
  simp [State.takeStart]
@[simp] theorem State.takeStart_pins : s.takeStart.pins = s.pins := by
  simp [State.takeStart]
@[simp] theorem State.takeStart_grid : s.takeStart.grid = s.grid := by
  simp [State.takeStart]
@[simp] theorem State.takeStart_engine : s.takeStart.engine = s.engine := by
  simp [State.takeStart]
@[simp] theorem State.takeStart_conv : s.takeStart.conv = s.conv := by
  simp [State.takeStart]
@[simp] theorem State.takeStart_generator : s.takeStart.generator = s.generator := by
  simp [State.takeStart]
@[simp] theorem State.takeStart_timing : s.takeStart.timing = s.timing := by
  simp [State.takeStart]
@[simp] theorem State.takeStart_regions : s.takeStart.regions = s.regions := by
  simp [State.takeStart]
@[simp] theorem State.takeStart_creds : s.takeStart.creds = s.creds := by
  simp [State.takeStart]
@[simp] theorem State.takeStart_modes : s.takeStart.modes = s.modes := by
  simp [State.takeStart]
@[simp] theorem State.takeStart_store : s.takeStart.store = s.store := by
  simp [State.takeStart]
@[simp] theorem State.takeStart_linePort : s.takeStart.linePort = s.linePort := by
  simp [State.takeStart]
@[simp] theorem State.takeStart_setPort : s.takeStart.setPort = s.setPort := by
  simp [State.takeStart]

/-! ### `State.examineHead` -/

@[simp] theorem State.examineHead_pending (q : Reading) (rest : List Reading) (rec : KnotRecord) : (s.examineHead q rest rec).pending = s.pending := by
  unfold State.examineHead; dsimp only; split; · simp
  · split <;> simp
@[simp] theorem State.examineHead_pins (q : Reading) (rest : List Reading) (rec : KnotRecord) : (s.examineHead q rest rec).pins = s.pins := by
  unfold State.examineHead; dsimp only; split; · simp
  · split <;> simp
@[simp] theorem State.examineHead_grid (q : Reading) (rest : List Reading) (rec : KnotRecord) : (s.examineHead q rest rec).grid = s.grid := by
  unfold State.examineHead; dsimp only; split; · simp
  · split <;> simp
@[simp] theorem State.examineHead_engine (q : Reading) (rest : List Reading) (rec : KnotRecord) : (s.examineHead q rest rec).engine = s.engine := by
  unfold State.examineHead; dsimp only; split; · simp
  · split <;> simp
@[simp] theorem State.examineHead_generator (q : Reading) (rest : List Reading) (rec : KnotRecord) : (s.examineHead q rest rec).generator = s.generator := by
  unfold State.examineHead; dsimp only; split; · simp
  · split <;> simp
@[simp] theorem State.examineHead_detector (q : Reading) (rest : List Reading) (rec : KnotRecord) : (s.examineHead q rest rec).detector = s.detector := by
  unfold State.examineHead; dsimp only; split; · simp
  · split <;> simp
@[simp] theorem State.examineHead_timing (q : Reading) (rest : List Reading) (rec : KnotRecord) : (s.examineHead q rest rec).timing = s.timing := by
  unfold State.examineHead; dsimp only; split; · simp
  · split <;> simp
@[simp] theorem State.examineHead_regions (q : Reading) (rest : List Reading) (rec : KnotRecord) : (s.examineHead q rest rec).regions = s.regions := by
  unfold State.examineHead; dsimp only; split; · simp
  · split <;> simp
@[simp] theorem State.examineHead_creds (q : Reading) (rest : List Reading) (rec : KnotRecord) : (s.examineHead q rest rec).creds = s.creds := by
  unfold State.examineHead; dsimp only; split; · simp
  · split <;> simp
@[simp] theorem State.examineHead_modes (q : Reading) (rest : List Reading) (rec : KnotRecord) : (s.examineHead q rest rec).modes = s.modes := by
  unfold State.examineHead; dsimp only; split; · simp
  · split <;> simp
@[simp] theorem State.examineHead_store (q : Reading) (rest : List Reading) (rec : KnotRecord) : (s.examineHead q rest rec).store = s.store := by
  unfold State.examineHead; dsimp only; split; · simp
  · split <;> simp
@[simp] theorem State.examineHead_linePort (q : Reading) (rest : List Reading) (rec : KnotRecord) : (s.examineHead q rest rec).linePort = s.linePort := by
  unfold State.examineHead; dsimp only; split; · simp
  · split <;> simp
@[simp] theorem State.examineHead_setPort (q : Reading) (rest : List Reading) (rec : KnotRecord) : (s.examineHead q rest rec).setPort = s.setPort := by
  unfold State.examineHead; dsimp only; split; · simp
  · split <;> simp
@[simp] theorem State.examineHead_book (q : Reading) (rest : List Reading) (rec : KnotRecord) : (s.examineHead q rest rec).book = s.book := by
  unfold State.examineHead; dsimp only; split; · simp
  · split <;> simp

/-! ### `State.inputFrame` -/

@[simp] theorem State.inputFrame_pending (f : InputFrame) : (s.inputFrame f).pending = s.pending := by
  simp [State.inputFrame]
@[simp] theorem State.inputFrame_pins (f : InputFrame) : (s.inputFrame f).pins = s.pins := by
  simp [State.inputFrame]
@[simp] theorem State.inputFrame_conv (f : InputFrame) : (s.inputFrame f).conv = s.conv := by
  simp [State.inputFrame]
@[simp] theorem State.inputFrame_modes (f : InputFrame) : (s.inputFrame f).modes = s.modes := by
  simp [State.inputFrame]
@[simp] theorem State.inputFrame_setPort (f : InputFrame) : (s.inputFrame f).setPort = s.setPort := by
  simp [State.inputFrame]
@[simp] theorem State.inputFrame_grid (f : InputFrame) : (s.inputFrame f).grid = (s.frameStart (some f)).grid := by
  simp [State.inputFrame]
@[simp] theorem State.inputFrame_queue (f : InputFrame) : (s.inputFrame f).queue = (s.frameStart (some f)).queue := by
  simp [State.inputFrame]
@[simp] theorem State.inputFrame_engine (f : InputFrame) : (s.inputFrame f).engine = (s.frameStart (some f)).engine := by
  simp [State.inputFrame]
@[simp] theorem State.inputFrame_generator (f : InputFrame) : (s.inputFrame f).generator = (s.frameStart (some f)).generator := by
  simp [State.inputFrame]
@[simp] theorem State.inputFrame_detector (f : InputFrame) : (s.inputFrame f).detector = (s.frameStart (some f)).detector := by
  simp [State.inputFrame]
@[simp] theorem State.inputFrame_regions (f : InputFrame) : (s.inputFrame f).regions = (s.frameStart (some f)).regions := by
  simp [State.inputFrame]
@[simp] theorem State.inputFrame_creds (f : InputFrame) : (s.inputFrame f).creds = (s.frameStart (some f)).creds := by
  simp [State.inputFrame]
@[simp] theorem State.inputFrame_store (f : InputFrame) : (s.inputFrame f).store = (s.frameStart (some f)).store := by
  simp [State.inputFrame]
@[simp] theorem State.inputFrame_linePort (f : InputFrame) : (s.inputFrame f).linePort = (s.frameStart (some f)).linePort := by
  simp [State.inputFrame]

/-! ### What the events make of the fields they change -/

@[simp] theorem State.takeShip_queue : s.takeShip.queue = { s.queue with hold := .released } := by
  unfold State.takeShip; dsimp only; split <;> simp
@[simp] theorem State.takeShip_creds : s.takeShip.creds = s.creds.bindAll := by
  unfold State.takeShip; dsimp only; split <;> simp
@[simp] theorem State.takeShip_engine : s.takeShip.engine = { s.engine with lineBypass := false } := by
  unfold State.takeShip; dsimp only; split <;> simp
@[simp] theorem State.takeShip_generator : s.takeShip.generator = { s.generator with requested := .external } := by
  unfold State.takeShip; dsimp only; split <;> simp
@[simp] theorem State.takeShip_modes :
    s.takeShip.modes = { s.modes with shipping := true, boundByShip := s.creds.loadedSlots } := by
  unfold State.takeShip; dsimp only; split <;> simp

/-- The save of Ship takes the slots already bound (R148). -/
@[simp] theorem State.takeShip_store :
    s.takeShip.store =
      { s.store with
        image := .incomplete
        write := .saving { s.contents with slots := mapTable Slot.saved s.creds.bindAll.slots }
        dirty := s.store.dirty || !s.creds.loadedSlots.isEmpty } := by
  unfold State.takeShip
  dsimp only
  split <;> rename_i h <;> simp [h, State.contents]

@[simp] theorem State.beginRevocation_store (c : ImageContents) (p : PortId) (k : Fin 16) :
    (s.beginRevocation c p k).store =
      { s.store with
        image := .complete (c.putSlot k (c.slots[k].markRevoked s.book.freeCount))
        write := .revoking p k } := rfl

@[simp] theorem State.finishSave_attention (result : WriteResult) (x : ImageContents) :
    (s.finishSave result x).attention = s.attention.raise .save := by
  cases result <;> simp only [State.finishSave] <;> split <;> simp [State.raiseIf_attention_eq]

theorem State.finishSave_modes (result : WriteResult) (x : ImageContents) :
    (s.finishSave result x).modes =
      if s.modes.shipping then
        match result with
        | .ok => { s.modes with mode := .field, fuse := true, shipping := false, boundByShip := [] }
        | .fault => { s.modes with shipping := false, boundByShip := [] }
      else s.modes := by
  cases result <;> simp only [State.finishSave] <;> split <;> simp [State.shipEndsOk, State.shipEndsFault]

theorem State.finishSave_creds (result : WriteResult) (x : ImageContents) :
    (s.finishSave result x).creds =
      if s.modes.shipping = true ∧ result = .fault then s.creds.unbindAll s.modes.boundByShip else s.creds := by
  cases result <;> simp only [State.finishSave] <;> split <;> simp_all [State.shipEndsFault]

theorem State.finishSave_store (result : WriteResult) (x : ImageContents) :
    (s.finishSave result x).store =
      match result with
      | .ok => { s.store with image := .complete x, write := .idle, lastResult := .ok, dirty := false }
      | .fault => { s.store with image := .incomplete, write := .idle, lastResult := .writeFault, dirty := true } := by
  cases result <;> simp only [State.finishSave] <;> split <;> simp

theorem State.finishRevocation_store (result : WriteResult) (p : PortId) (k : Fin 16) :
    (s.finishRevocation result p k).store =
      match result with
      | .ok => { s.store with image := s.store.image.withEntry k s.creds.slots[k], write := .idle }
      | .fault => { s.store with image := .incomplete, write := .idle } := by
  cases result <;> simp [State.finishRevocation]

@[simp] theorem State.completeLoad_store : s.completeLoad.store = { s.store with startUp := .ready } := by
  unfold State.completeLoad; dsimp only; split <;> simp

@[simp] theorem State.reportEnd_queue : s.reportEnd.queue = { s.queue with guard := .stopped } := by
  simp [State.reportEnd]

@[simp] theorem State.reportStart_queue :
    s.reportStart.queue = { s.queue with guard := if s.detector.guardTime = 0 then .stopped else .running 0 } := by
  simp [State.reportStart, State.guardReport]

@[simp] theorem State.takeEnd_queue : s.takeEnd.queue = { s.queue with guard := .stopped } := by
  simp [State.takeEnd]

@[simp] theorem State.takeStart_queue :
    s.takeStart.queue = { s.queue with guard := if s.detector.guardTime = 0 then .stopped else .running 0 } := rfl

@[simp] theorem State.takeEnd_detector :
    s.takeEnd.detector = { s.detector with state := s.comingVerdict.afterEnd } := by
  simp [State.takeEnd]

@[simp] theorem State.takeStart_detector :
    s.takeStart.detector = { s.detector with state := s.verdictLeft.state } := by
  simp [State.takeStart]

/-- A loss of the input is a change of one pin. -/
theorem State.signalLost_pins_eq : s.signalLost.pins = { s.pins with signal := false } := by
  unfold State.signalLost
  dsimp only
  split
  · split <;> simp
  · rfl

/-- A loss of the input changes the guard only, and only by stopping it (R52, R102). -/
theorem State.signalLost_queue :
    s.signalLost.queue = s.queue ∨ s.signalLost.queue = { s.queue with guard := .stopped } := by
  unfold State.signalLost
  dsimp only
  split
  · split
    · unfold State.loseSight
      dsimp only
      split
      · right; simp
      · left; simp
    · left; simp
  · exact .inl rfl

theorem State.signalLost_detector :
    s.signalLost.detector = s.detector ∨ s.signalLost.detector = { s.detector with state := .none } := by
  unfold State.signalLost
  dsimp only
  split
  · split
    · unfold State.loseSight
      dsimp only
      split <;> (right; simp)
    · left; simp
  · exact .inl rfl

/-- An examination places one CONVERGE entry at most (R76, R77, R86). -/
theorem State.examineHead_queue (q : Reading) (rest : List Reading) (rec : KnotRecord) :
    (s.examineHead q rest rec).queue = s.queue ∨
      (s.examineHead q rest rec).queue = s.queue.place [convergeEntry s.conv.parameters rec q] := by
  unfold State.examineHead
  dsimp only
  split
  · left; simp
  · split
    · exact .inl rfl
    · right; simp

/-- An examination removes the head reading and moves a count. -/
theorem State.examineHead_conv (q : Reading) (rest : List Reading) (rec : KnotRecord) :
    ∃ processed stale ignored, (s.examineHead q rest rec).conv =
      { s.conv with readings := rest, processed := processed, stale := stale, ignored := ignored } := by
  unfold State.examineHead
  dsimp only
  split
  · exact ⟨_, _, _, State.raiseIf_conv ..⟩
  · split
    · exact ⟨_, _, _, rfl⟩
    · exact ⟨_, _, _, State.raiseIf_conv ..⟩

end Events

end Sys2Proof.Machine
end

section
/-! PROOFS. What no command does: it leaves the commands that wait (O2) and the pins it has no part in; it clears no flag but
by a Read Attention, a reset or a loss of supply (O12); it changes no record but where entries are applied, the grid is
defined, a reset is taken or the image is loaded (O25). -/

namespace Sys2Proof.Machine

open Sys2Proof

/-! ## The commands that wait (O2) -/

theorem exec_pending {i : Instr} {s t : State} (h : exec i s = .next t) : t.pending = s.pending := by
  refine (exec_done h).keeps (good := fun u => u.pending = s.pending) rfl (fun u p q hu => by simpa using hu) ?_ ?_
  · intro c a _ he
    cases he with
    | reset => rfl
    | _ => simp [Answer.after]
  · intro u he
    cases he with
    | poweredOn | powerLost | signalAppeared => rfl
    | resetAsserted => unfold State.assertReset; split <;> rfl
    | resetReleased => unfold State.releaseReset; split <;> rfl
    | _ => simp

/-- A term of its row has its effect, and any other is refused (log 34). -/
theorem whenWellFormed_completes (i : Instr) (after : State) :
    (wellFormed i = true → ∃ t, whenWellFormed i after = .next t) ∧
      (wellFormed i = false → whenWellFormed i after = .refused .illFormed) := by
  unfold whenWellFormed
  constructor <;> intro h <;> simp [h]

/-- Settles O2: only the rows that a byte or an input frame defines ask whether a term is theirs. -/
theorem commandsKeepTheQueueAndComplete : Obligations.CommandsKeepTheQueueAndComplete := by
  intro c s
  have completes : (wellFormed c = true → ∃ t, exec c s = .next t) ∧ (wellFormed c = false → exec c s = .refused .illFormed) := by
    cases c with
    | unknownRequest p code b => exact whenWellFormed_completes _ _
    | ignoredFrame p frame => exact whenWellFormed_completes _ _
    | ignoredTransaction b => exact whenWellFormed_completes _ _
    | inputFrameStart f => exact whenWellFormed_completes _ _
    | frameStart o => exact whenWellFormed_completes _ _
    | _ => exact ⟨fun _ => ⟨_, rfl⟩, nofun⟩
  refine ⟨fun hw => ?_, completes.2⟩
  obtain ⟨t, ht⟩ := completes.1 hw
  exact ⟨t, ht, exec_pending ht⟩

/-! ## Flags (O12) -/

/-- Every flag of the port set before is set after. -/
def AttentionUnit.keepsFlags (a b : AttentionUnit) (p : PortId) : Prop := a.flags p &&& b.flags p = a.flags p

section Flags

variable {a b : AttentionUnit} {p : PortId}

theorem AttentionUnit.keepsFlags_iff :
    a.keepsFlags b p ↔ ∀ k, (a.flags p).getLsbD k = true → (b.flags p).getLsbD k = true := by
  unfold AttentionUnit.keepsFlags
  constructor
  · intro h k hk
    rw [← h, BitVec.getLsbD_and, Bool.and_eq_true] at hk
    exact hk.2
  · intro h
    refine BitVec.eq_of_getLsbD_eq fun k _ => ?_
    rw [BitVec.getLsbD_and]
    cases hk : (a.flags p).getLsbD k with
    | false => rfl
    | true => rw [h k hk]; rfl

theorem AttentionUnit.keepsFlags_refl (a : AttentionUnit) (p : PortId) : a.keepsFlags a p := BitVec.and_self

theorem AttentionUnit.keepsFlags_raiseIf (h : a.keepsFlags b p) (c : Bool) (f : Flag) :
    a.keepsFlags (b.raiseIf c f) p := by
  rw [AttentionUnit.keepsFlags_iff] at h ⊢
  intro k hk
  have := h k hk
  cases p <;> simp_all [AttentionUnit.flags]

/-- Reading one port's flags leaves the other port's. -/
theorem AttentionUnit.keepsFlags_clear_of_ne {q : PortId} (h : q ≠ p) : a.keepsFlags (a.clear q) p := by
  have other : (a.clear q).flags p = a.flags p := by
    cases p <;> cases q <;> simp_all [AttentionUnit.clear, AttentionUnit.flags]
  rw [AttentionUnit.keepsFlags, other, BitVec.and_self]

theorem AttentionUnit.keepsFlags_withMask (m : FlagSet) (q : PortId) : a.keepsFlags (a.withMask m q) p := by
  have same : (a.withMask m q).flags p = a.flags p := by
    cases p <;> cases q <;> rfl
  rw [AttentionUnit.keepsFlags, same, BitVec.and_self]

end Flags

/-- No owning block but those of Read Attention and Reset clears a flag. -/
theorem Effect.keepsFlags {i : Instr} {s : State} {c : Call} {a : Answer} {p : PortId} (h : Effect i s c a)
    (hr : isResetEvent i = false) (ha : readsAttention p i = false) :
    s.attention.keepsFlags a.after.attention p := by
  have same := s.attention.keepsFlags_refl p
  cases h with
  | attentionRead _ h =>
    refine AttentionUnit.keepsFlags_clear_of_ne fun e => ?_
    rw [e, ha] at h
    cases h
  | masked _ m => exact AttentionUnit.keepsFlags_withMask m _
  | reset h => rw [hr] at h; cases h
  | gridDefined =>
    simp only [Answer.after, State.defineGrid, State.judgeConverged, State.raiseIf_attention_eq]
    exact AttentionUnit.keepsFlags_raiseIf same _ _
  | readingsTaken =>
    simp only [Answer.after, State.intake, State.raiseIf_attention_eq]
    exact AttentionUnit.keepsFlags_raiseIf same _ _
  | reopenFailed =>
    simp only [Answer.after, State.raiseIf_attention_eq]
    exact AttentionUnit.keepsFlags_raiseIf same _ _
  | _ => simpa [Answer.after] using same

/-- Events but resets and the loss of supply only raise flags. -/
theorem Event.keepsFlags {i : Instr} {s u : State} {p : PortId} (h : Event i s u) (hr : isResetEvent i = false) :
    s.attention.keepsFlags u.attention p := by
  have same := s.attention.keepsFlags_refl p
  have started : ∀ input, s.attention.keepsFlags (s.frameStart input).attention p := fun input => by
    rw [State.frameStart_attention]
    iterate 5 apply AttentionUnit.keepsFlags_raiseIf
    exact same
  cases h with
  | poweredOn h | resetAsserted h | powerLost h => rw [hr] at h; cases h
  | resetReleased => unfold State.releaseReset; split <;> exact same
  | signalLost =>
    unfold State.signalLost
    dsimp only
    split
    · split
      · unfold State.loseSight
        dsimp only
        split
        · simp only [State.reportEnd, State.withGuard_attention, State.withDetection_attention,
            State.raiseIf_attention_eq, State.judgeInput_attention]
          exact AttentionUnit.keepsFlags_raiseIf (AttentionUnit.keepsFlags_raiseIf same _ _) _ _
        · simp only [State.withDetection_attention, State.judgeInput_attention]
          exact AttentionUnit.keepsFlags_raiseIf same _ _
      · simp only [State.judgeInput_attention]
        exact AttentionUnit.keepsFlags_raiseIf same _ _
    · exact same
  | inputJudged =>
    rw [State.judgeInput_attention]
    exact AttentionUnit.keepsFlags_raiseIf same _ _
  | frameStarted => exact started _
  | inputFrame _ _ f =>
    rw [State.inputFrame, State.judgeInput_attention]
    exact AttentionUnit.keepsFlags_raiseIf (started _) _ _
  | signalAppeared => exact same
  | guardExpired | revocationFinished => simpa using same
  | loadAbandoned =>
    simp only [State.abandonLoad, State.raiseIf_attention_eq]
    exact AttentionUnit.keepsFlags_raiseIf same _ _
  | holdingEnded =>
    simp only [State.takeEnd, State.withJudgement_attention, State.reportEnd, State.withGuard_attention,
      State.raiseIf_attention_eq, State.withDetection_attention]
    exact AttentionUnit.keepsFlags_raiseIf same _ _
  | holdingStarted =>
    simp only [State.takeStart, State.withJudgement_attention, State.reportStart, State.guardReport,
      State.withGuard_attention, State.raiseIf_attention_eq, State.withDetection_attention]
    exact AttentionUnit.keepsFlags_raiseIf same _ _
  | examined =>
    unfold State.examineHead
    dsimp only
    split
    · rw [State.raiseIf_attention_eq]
      exact AttentionUnit.keepsFlags_raiseIf same _ _
    · split
      · exact same
      · rw [State.raiseIf_attention_eq]
        exact AttentionUnit.keepsFlags_raiseIf same _ _
  | saveFinished =>
    rw [State.finishSave_attention]
    exact AttentionUnit.keepsFlags_raiseIf same true _
  | loadCompleted =>
    unfold State.completeLoad
    dsimp only
    split
    · exact same
    · exact AttentionUnit.keepsFlags_raiseIf same true _
    · exact same

/-- Settles O12: an owning block or an event clears a flag only as a Read Attention on the port or as a reset, and the ports
themselves hold no flag. -/
theorem flagsAreClearedByReadingOrReset : Obligations.FlagsAreClearedByReadingOrReset := by
  intro c s t p h hr ha
  exact (exec_done h).keeps (good := fun u => s.attention.keepsFlags u.attention p) (s.attention.keepsFlags_refl p)
    (fun u q r hu => by simpa using hu) (fun _ _ _ he => he.keepsFlags hr ha) (fun _ he => he.keepsFlags hr)

/-! ## Records (O25) -/

/-- The records, their descriptor, the counts and the judged value of two Grid Stores agree; the write-skip count may not. -/
def GridStore.sameRecords (g h : GridStore) : Prop :=
  h.records = g.records ∧ h.descriptor = g.descriptor ∧ h.counts = g.counts ∧ h.allConverged = g.allConverged

theorem GridStore.sameRecords_refl (g : GridStore) : g.sameRecords g := ⟨rfl, rfl, rfl, rfl⟩

theorem mayChangeRecords_of_reset {i : Instr} (h : isResetEvent i = true) : mayChangeRecords i = true := by
  unfold mayChangeRecords
  split
  · rfl
  · rfl
  · rfl
  · rfl
  · exact h

theorem Effect.sameRecords {i : Instr} {s : State} {c : Call} {a : Answer} (h : Effect i s c a)
    (hm : mayChangeRecords i = false) : s.grid.sameRecords a.after.grid := by
  have same := s.grid.sameRecords_refl
  cases h with
  | reset h => rw [mayChangeRecords_of_reset h] at hm; cases hm
  | gridDefined _ h => rw [h] at hm; cases hm
  | summaryRead => exact ⟨rfl, rfl, rfl, rfl⟩
  | _ => simpa [Answer.after] using same

theorem Event.sameRecords {i : Instr} {s u : State} (h : Event i s u) (hm : mayChangeRecords i = false) :
    s.grid.sameRecords u.grid := by
  have same := s.grid.sameRecords_refl
  cases h with
  | poweredOn h | resetAsserted h | powerLost h => rw [mayChangeRecords_of_reset h] at hm; cases hm
  | frameStarted h | inputFrame h | loadCompleted h => rw [h] at hm; cases hm
  | resetReleased => unfold State.releaseReset; split <;> exact same
  | signalAppeared => exact same
  | _ => simpa using same

/-- Settles O25: of all that a command can do, only a frame start, Define Grid, a reset and the load touch a record, and
each of them is such a command. -/
theorem recordsChangeOnlyAtFrameStarts : Obligations.RecordsChangeOnlyAtFrameStarts := by
  intro c s t h hm
  exact (exec_done h).keeps (good := fun u => s.grid.sameRecords u.grid) s.grid.sameRecords_refl
    (fun u q r hu => by simpa using hu) (fun _ _ _ he => he.sameRecords hm) (fun _ he => he.sameRecords hm)

/-! ## The pins -/

/-- Only a reset samples the address again, and no command moves ADSEL (log 39). -/
theorem exec_pins {i : Instr} {s t : State} (h : exec i s = .next t) :
    t.pins.adselHigh = s.pins.adselHigh ∧ (isResetEvent i = false → t.pins.address = s.pins.address) := by
  refine (exec_done h).keeps (good := fun u => u.pins.adselHigh = s.pins.adselHigh ∧
    (isResetEvent i = false → u.pins.address = s.pins.address)) ⟨rfl, fun _ => rfl⟩ (fun u p q hu => by simpa using hu) ?_ ?_
  · intro c a _ he
    cases he with
    | reset hr => exact ⟨rfl, fun h => by rw [hr] at h; cases h⟩
    | _ => simp [Answer.after]
  · intro u he
    cases he with
    | poweredOn hr | powerLost hr => exact ⟨rfl, fun h => by rw [hr] at h; cases h⟩
    | resetAsserted hr =>
      refine ⟨?_, fun h => by rw [hr] at h; cases h⟩
      unfold State.assertReset
      split <;> rfl
    | resetReleased => unfold State.releaseReset; split <;> exact ⟨rfl, fun _ => rfl⟩
    | signalAppeared => exact ⟨rfl, fun _ => rfl⟩
    | signalLost => simp [State.signalLost_pins_eq]
    | _ => simp

end Sys2Proof.Machine
end

section
/-! PROOFS. Every step keeps both queues within their limits and every timer below its bound (O53). -/

namespace Sys2Proof.Machine

open Sys2Proof

/-! ## A step -/

/-- A step idles, or does what the command at the front does. -/
theorem step_cases {s t : State} (h : step s = .next t) :
    t = s ∨ ∃ i rest, s.pending = i :: rest ∧ Done i { s with pending := rest } t := by
  unfold step at h
  split at h
  · cases h; exact .inl rfl
  · next i rest hp => exact .inr ⟨i, rest, hp, exec_done h⟩

/-- What every command keeps from every state, whatever waits, every step keeps. -/
theorem step_keeps {good : State → Prop} {s t : State} (h : step s = .next t) (hs : good s)
    (pending : ∀ u l, good u → good { u with pending := l }) (done : ∀ i u v, Done i u v → good u → good v) : good t := by
  obtain rfl | ⟨i, rest, -, hd⟩ := step_cases h
  · exact hs
  · exact done i _ t hd (pending s rest hs)

/-! ## The queues (R40, R73) -/

theorem Effect.queuesBounded {i : Instr} {s : State} {c : Call} {a : Answer} (h : Effect i s c a)
    (hs : s.queuesBounded) : a.after.queuesBounded := by
  obtain ⟨he, hr⟩ := hs
  cases h with
  | reset => exact ⟨Nat.zero_le _, Nat.zero_le _⟩
  | gridDefined => simp [Answer.after, State.queuesBounded, State.defineGrid]
  | placed _ es _ _ room => exact ⟨by simpa [Answer.after] using room, hr⟩
  | adjusted _ _ _ _ _ room => exact ⟨by simpa [Answer.after] using room, hr⟩
  | readingsTaken _ b _ _ room => exact ⟨by simpa [Answer.after] using he, by simpa [Answer.after, State.intake] using room⟩
  | _ => simpa [Answer.after, State.queuesBounded] using ⟨he, hr⟩

theorem State.frameStart_entries_length (s : State) (input : Option InputFrame) :
    (s.frameStart input).queue.entries.length ≤ s.queue.entries.length := by
  rw [State.frameStart_queue]
  dsimp only
  split <;> simp

theorem Event.queuesBounded {i : Instr} {s u : State} (h : Event i s u) (hs : s.queuesBounded) : u.queuesBounded := by
  obtain ⟨he, hr⟩ := hs
  have started : ∀ input, (s.frameStart input).queuesBounded := fun input =>
    ⟨(s.frameStart_entries_length input).trans he, by simpa using hr⟩
  cases h with
  | poweredOn | powerLost => exact ⟨Nat.zero_le _, Nat.zero_le _⟩
  | resetAsserted =>
    unfold State.assertReset
    split
    · exact ⟨Nat.zero_le _, Nat.zero_le _⟩
    · exact ⟨he, hr⟩
  | resetReleased => unfold State.releaseReset; split <;> exact ⟨he, hr⟩
  | signalAppeared => exact ⟨he, hr⟩
  | signalLost =>
    refine ⟨?_, by simpa using hr⟩
    rcases s.signalLost_queue with e | e <;> rw [e] <;> exact he
  | frameStarted => exact started _
  | inputFrame _ _ f => simpa [State.queuesBounded] using started (some f)
  | examined q rest d rec _ head room =>
    obtain ⟨_, _, _, hconv⟩ := s.examineHead_conv q rest rec
    constructor
    · rcases s.examineHead_queue q rest rec with e | e <;> rw [e]
      · exact he
      · simpa [UpdateQueue.place] using room
    · rw [head, List.length_cons] at hr
      rw [hconv]
      exact Nat.le_of_succ_le hr
  | _ => simpa [State.queuesBounded] using ⟨he, hr⟩

/-! ## The timers (R50, R97, R106, R129) -/

/-- A detector that settles has accumulated less than the largest settle time (R105). -/
def Detection.sound (d : Detection) : Prop := ∀ c src acc, d = .settling c src acc → acc < 2000

theorem Detection.sound_none : Detection.none.sound := nofun

theorem Detection.sound_held (p : Pattern) (src : Source) (b : FrameNumber) : (Detection.held p src b).sound := nofun

theorem Detection.sound_settling {p : Pattern} {src : Source} {acc : Nat} (h : acc < 2000) :
    (Detection.settling p src acc).sound := by
  intro c src' acc' e
  cases e
  exact h

theorem newCandidate_sound (p : Pattern) (src : Source) (settle : Nat) (frame : FrameNumber) (ends : Bool) :
    (newCandidate p src settle frame ends).state.sound := by
  unfold newCandidate
  split
  · exact Detection.sound_held _ _ _
  · exact Detection.sound_settling (by decide)

/-- A judgement that goes on settling stays below the settle time (R100). -/
theorem judgeSighting_sound {d : MarkerDetector} (ht : d.settleTime ≤ 2000) (sighting : Option (Pattern × Source))
    (step : Nat) (frame : FrameNumber) : (judgeSighting d sighting step frame).state.sound := by
  unfold judgeSighting
  split
  · exact Detection.sound_none
  · exact newCandidate_sound _ _ _ _ _
  · exact Detection.sound_none
  · split
    · split
      · exact Detection.sound_held _ _ _
      · exact Detection.sound_settling (by omega)
    · exact newCandidate_sound _ _ _ _ _
  · exact Detection.sound_none
  · split
    · exact Detection.sound_held _ _ _
    · exact newCandidate_sound _ _ _ _ _

theorem State.comingVerdict_sound {s : State} (ht : s.detector.settleTime ≤ 2000) (hd : s.detector.state.sound) :
    s.comingVerdict.state.sound := by
  unfold State.comingVerdict
  split
  · exact Detection.sound_none
  · split
    · exact judgeSighting_sound ht _ _ _
    · exact hd

theorem State.verdictLeft_sound {s : State} (ht : s.detector.settleTime ≤ 2000) (hd : s.detector.state.sound) :
    s.verdictLeft.state.sound := by
  unfold State.verdictLeft
  split
  · exact State.comingVerdict_sound ht hd
  · split
    · exact State.comingVerdict_sound ht hd
    · unfold State.remainingVerdict
      split
      · split
        · exact Detection.sound_held _ _ _
        · exact hd
      · exact hd
    · exact hd

theorem Verdict.afterEnd_sound {v : Verdict} (h : v.state.sound) : v.afterEnd.sound := by
  unfold Verdict.afterEnd
  split
  · split
    · exact Detection.sound_settling (by decide)
    · exact h
  · exact h

/-- A running guard is below the largest guard time (R105). -/
def Guard.sound (g : Guard) : Prop := ∀ acc, g = .running acc → acc < 2000

theorem Guard.sound_stopped : Guard.stopped.sound := nofun

theorem Guard.sound_running {acc : Nat} (h : acc < 2000) : (Guard.running acc).sound := by
  intro acc' e
  cases e
  exact h

/-- A guard that a report starts (R50). -/
theorem Guard.sound_started (guardTime : Nat) : (if guardTime = 0 then Guard.stopped else .running 0).sound := by
  split
  · exact Guard.sound_stopped
  · exact Guard.sound_running (by decide)

theorem State.addGuard_sound {s : State} (ht : s.detector.guardTime ≤ 2000) (hg : s.queue.guard.sound) (step : Nat) :
    (s.addGuard step).queue.guard.sound := by
  rw [State.addGuard_queue]
  dsimp only
  split
  · exact Guard.sound_stopped
  · next acc h =>
    split
    · exact Guard.sound_running (hg acc h)
    · split
      · exact Guard.sound_stopped
      · exact Guard.sound_running (by omega)

/-- The gap timer of a busy loading context is below its bound (R133). -/
def CredentialTable.gapSound (t : CredentialTable) : Prop := ∀ l, t.loading = some l → l.gap < 2000

theorem CredentialTable.gapSound_of_none {t : CredentialTable} (h : t.loading = none) : t.gapSound := by
  intro l hl
  rw [h] at hl
  cases hl

theorem State.addGap_sound {s : State} (h : s.creds.gapSound) (step : Nat) : (s.addGap step).creds.gapSound := by
  rw [State.addGap_creds]
  split
  · exact h
  · split
    · exact CredentialTable.gapSound_of_none rfl
    · intro l hl
      cases hl
      dsimp only
      omega

theorem State.timersSound_iff {s : State} :
    s.timersSound ↔ s.detector.settleTime ≤ 2000 ∧ s.detector.guardTime ≤ 2000 ∧ s.detector.state.sound ∧
      s.queue.guard.sound ∧ s.creds.gapSound := Iff.rfl

theorem State.reset_timersSound : State.reset.timersSound :=
  ⟨by decide, by decide, Detection.sound_none, Guard.sound_stopped, CredentialTable.gapSound_of_none rfl⟩

theorem Effect.timersSound {i : Instr} {s : State} {c : Call} {a : Answer} (h : Effect i s c a)
    (hs : s.timersSound) : a.after.timersSound := by
  rw [State.timersSound_iff] at hs ⊢
  obtain ⟨ht, hgt, hd, hg, hgap⟩ := hs
  cases h with
  | reset => exact State.reset_timersSound
  | gridDefined => simpa [Answer.after, State.defineGrid] using ⟨ht, hgt, hd, hg, hgap⟩
  | timesSet _ settle guard h h' => exact ⟨h, h', hd, hg, hgap⟩
  | loadBegun | chunkJoined => exact ⟨ht, hgt, hd, hg, fun l hl => by cases hl; exact Nat.zero_lt_succ 1999⟩
  | loadDropped | loadEnded => exact ⟨ht, hgt, hd, hg, CredentialTable.gapSound_of_none rfl⟩
  | _ => simpa [Answer.after, CredentialTable.gapSound] using ⟨ht, hgt, hd, hg, hgap⟩

theorem State.frameStart_timersSound {s : State} (hs : s.timersSound) (input : Option InputFrame) :
    (s.frameStart input).timersSound := by
  rw [State.timersSound_iff] at hs ⊢
  obtain ⟨ht, hgt, hd, hg, hgap⟩ := hs
  rw [State.frameStart_detector, State.frameStart_queue, State.frameStart_creds]
  refine ⟨ht, hgt, State.verdictLeft_sound ht hd, ?guard, State.addGap_sound hgap _⟩
  case guard =>
    dsimp only
    split
    · exact Guard.sound_started _
    · split
      · exact Guard.sound_stopped
      · exact State.addGuard_sound hgt hg _

theorem Event.timersSound {i : Instr} {s u : State} (h : Event i s u) (hs : s.timersSound) : u.timersSound := by
  have started := State.frameStart_timersSound hs
  rw [State.timersSound_iff] at hs ⊢
  have hs' := hs
  obtain ⟨ht, hgt, hd, hg, hgap⟩ := hs
  cases h with
  | poweredOn | powerLost => exact State.reset_timersSound
  | resetAsserted =>
    unfold State.assertReset
    split
    · exact State.reset_timersSound
    · exact hs'
  | resetReleased => unfold State.releaseReset; split <;> exact hs'
  | signalAppeared => exact hs'
  | signalLost =>
    have guard : s.signalLost.queue.guard.sound := by
      rcases s.signalLost_queue with e | e <;> rw [e]
      · exact hg
      · exact Guard.sound_stopped
    rcases s.signalLost_detector with e | e <;> rw [e, State.signalLost_creds]
    · exact ⟨ht, hgt, hd, guard, hgap⟩
    · exact ⟨ht, hgt, Detection.sound_none, guard, hgap⟩
  | frameStarted => exact started none
  | inputFrame _ _ f => simpa [State.timersSound_iff] using started (some f)
  | guardExpired => exact ⟨ht, hgt, hd, Guard.sound_stopped, hgap⟩
  | loadAbandoned => exact ⟨ht, hgt, hd, hg, CredentialTable.gapSound_of_none rfl⟩
  | holdingEnded =>
    simpa using ⟨ht, hgt, Verdict.afterEnd_sound (State.comingVerdict_sound ht hd), Guard.sound_stopped, hgap⟩
  | holdingStarted =>
    simpa using ⟨ht, hgt, State.verdictLeft_sound ht hd, Guard.sound_started _, hgap⟩
  | examined q rest d rec =>
    have guard : (s.examineHead q rest rec).queue.guard = s.queue.guard := by
      rcases s.examineHead_queue q rest rec with e | e
      · rw [e]
      · rw [e, UpdateQueue.place]
    simpa [guard] using hs'
  | saveFinished result x =>
    refine ⟨by simpa using ht, by simpa using hgt, by simpa using hd, by simpa using hg, ?_⟩
    rw [State.finishSave_creds]
    split <;> exact hgap
  | loadCompleted =>
    refine ⟨by simpa using ht, by simpa using hgt, by simpa using hd, by simpa using hg, ?_⟩
    unfold State.completeLoad
    dsimp only
    split
    · exact hgap
    · exact hgap
    · exact CredentialTable.gapSound_of_none rfl
  | _ => simpa using hs'

/-- Settles O53: every owning block and every event keeps the bounds. -/
theorem queuesAndTimersStayBounded : Obligations.QueuesAndTimersStayBounded := by
  intro s t hq ht h
  constructor
  · refine step_keeps h hq (fun _ _ hu => hu) fun i u v hd hu => ?_
    exact hd.keeps hu (fun _ _ _ h => by simpa [State.queuesBounded] using h) (fun _ _ _ he => he.queuesBounded hu)
      (fun _ he => he.queuesBounded hu)
  · refine step_keeps h ht (fun _ _ hu => hu) fun i u v hd hu => ?_
    exact hd.keeps hu (fun _ _ _ h => by simpa [State.timersSound] using h) (fun _ _ _ he => he.timersSound hu)
      (fun _ he => he.timersSound hu)

end Sys2Proof.Machine
end

section
/-! PROOFS. What the image and a running save hold, through every command; what an entry makes of its records; every step
keeps trims, hits and loop parameters in their ranges (O54). -/

namespace Sys2Proof.Machine

open Sys2Proof

/-! ## The image and the save -/

section Contents

variable {good : ImageContents → Prop} {c : ImageController}

/-- Only the image and the write decide what the contents satisfy. -/
theorem ImageController.contentsSatisfy_congr {c' : ImageController} (h : c.contentsSatisfy good)
    (image : c'.image = c.image) (write : c'.write = c.write) : c'.contentsSatisfy good := by
  unfold ImageController.contentsSatisfy
  rw [image, write]
  exact h

/-- A save that begins with good contents. -/
theorem ImageController.contentsSatisfy_saving {x : ImageContents} (image : c.image = .incomplete)
    (write : c.write = .saving x) (h : good x) : c.contentsSatisfy good := by
  constructor
  · rw [image]; exact nofun
  · rw [write]; rintro _ ⟨⟩; exact h

/-- No save runs, and the image is good where it is COMPLETE. -/
theorem ImageController.contentsSatisfy_image (write : c.write.contents? = none)
    (image : ∀ x, c.image = .complete x → good x) : c.contentsSatisfy good := by
  constructor
  · intro x hx
    refine image x ?_
    cases hi : c.image <;> rw [hi] at hx <;> cases hx
    rfl
  · rw [write]; exact nofun

theorem ImageController.contentsSatisfy.complete (h : c.contentsSatisfy good) {x : ImageContents}
    (hx : c.image = .complete x) : good x := h.1 x (by rw [hx]; rfl)

theorem ImageController.contentsSatisfy.running (h : c.contentsSatisfy good) {x : ImageContents}
    (hx : c.write = .saving x) : good x := h.2 x (by rw [hx]; rfl)

/-- What a reset leaves of the image is good: no write runs. -/
theorem ImageController.contentsSatisfy_reset (h : c.contentsSatisfy good) {c' : ImageController}
    (image : c'.image = c.image) (write : c'.write = .idle) : c'.contentsSatisfy good :=
  contentsSatisfy_image (by rw [write]; rfl) (fun _ hx => h.complete (image ▸ hx))

/-- Owning blocks keep what the image and a save hold good, when a save takes good contents and the mark of a revocation
keeps an image good. -/
theorem Effect.contentsSatisfy {i : Instr} {s : State} {c : Call} {a : Answer} (h : Effect i s c a)
    (hs : s.store.contentsSatisfy good) (save : good s.contents)
    (ship : good { s.contents with slots := mapTable Slot.saved s.creds.bindAll.slots })
    (mark : ∀ x k draw, good x → good (x.putSlot k (x.slots[k].markRevoked draw))) :
    a.after.store.contentsSatisfy good := by
  cases h with
  | reset => exact ImageController.contentsSatisfy_reset hs rfl rfl
  | gridDefined =>
    refine ImageController.contentsSatisfy_congr hs ?_ ?_ <;> simp [Answer.after, State.defineGrid, State.judgeConverged]
  | revocationBegun k _ _ _ x _ _ _ _ image =>
    refine ImageController.contentsSatisfy_image rfl fun y hy => ?_
    rw [← Image.complete.inj hy]
    exact mark x k _ (hs.complete image)
  | saveBegun => exact ImageController.contentsSatisfy_saving rfl rfl save
  | shipped =>
    refine ImageController.contentsSatisfy_saving ?_ ?_ ship
    · simp [Answer.after]
    · simp [Answer.after]
  | _ => refine ImageController.contentsSatisfy_congr hs ?_ ?_ <;> simp [Answer.after]

/-- Events keep it too, when the end of a revocation write does. -/
theorem Event.contentsSatisfy {i : Instr} {s u : State} (h : Event i s u) (hs : s.store.contentsSatisfy good)
    (entry : ∀ x p k, s.store.write = .revoking p k → good x → good (x.putSlot k s.creds.slots[k].saved)) :
    u.store.contentsSatisfy good := by
  cases h with
  | poweredOn | powerLost => exact ImageController.contentsSatisfy_reset hs rfl rfl
  | resetAsserted =>
    unfold State.assertReset
    split
    · exact ImageController.contentsSatisfy_reset hs rfl rfl
    · exact hs
  | resetReleased => unfold State.releaseReset; split <;> exact hs
  | signalAppeared => exact hs
  | saveFinished result x _ write =>
    rw [State.finishSave_store]
    cases result with
    | ok => exact ImageController.contentsSatisfy_image rfl fun y hy => Image.complete.inj hy ▸ hs.running write
    | fault => exact ImageController.contentsSatisfy_image rfl nofun
  | revocationFinished result p k write =>
    rw [State.finishRevocation_store]
    cases result with
    | fault => exact ImageController.contentsSatisfy_image rfl nofun
    | ok =>
      refine ImageController.contentsSatisfy_image rfl fun y hy => ?_
      cases image : s.store.image <;> rw [image] at hy <;> cases hy
      exact entry _ p k write (hs.complete image)
  | loadCompleted => refine ImageController.contentsSatisfy_congr hs ?_ ?_ <;> simp
  | frameStarted | inputFrame => refine ImageController.contentsSatisfy_congr hs ?_ ?_ <;> simp [State.frameStart_store]
  | _ => refine ImageController.contentsSatisfy_congr hs ?_ ?_ <;> simp

end Contents

/-! ## What an entry makes of the records it touches -/

/-- What an entry makes of the record of knot (column, row) at a plane, when the application has come to it (R7 to R11). -/
def Entry.change (e : Entry) (d : Descriptor) (frame : FrameNumber) (a : Application) (plane row column : Nat) :
    KnotRecord → Option KnotRecord :=
  match e with
  | .write _ _ _ v => fun k => some (k.written v frame)
  | .adjust _ _ _ deltas => fun k => some (k.written (adjustedTrims deltas k.trim) frame)
  | .converge _ _ _ trim hits limit st =>
    fun _ => some { trim := trim, state := st, hits := hits, limit := limit, applied := some frame }
  | .pinArea .. => fun k => if k.state = .retired then none else some (k.pinned frame)
  | .unpinArea .. => fun k => if k.state = .pinned then some (k.unpinned frame) else none
  | .retire _ _ => fun k => some (k.retiredWith (a.grid.fill d plane row column) frame)
  | .restore _ _ => fun k => if k.state = .retired then some (k.restored frame) else none

/-- An application of an entry is changes of the records it touches, with the write-skip count and the reply: what these
keep, it keeps. -/
theorem Application.apply_induction {good : Application → Prop} {d : Descriptor} {frame : FrameNumber} {a : Application}
    {e : Entry} (h : good a)
    (change : ∀ b p r c, e.touches c r p = true → good b → good (b.update d p r c (e.change d frame b p r c)))
    (skip : ∀ (b : Application) n, good b → good { b with grid := { b.grid with writeSkip := n } })
    (answer : ∀ (b : Application) x, good b → good { b with reply := x }) : good (a.apply d frame e) := by
  cases e with
  | write c r p v =>
    simp only [Application.apply]
    split
    · exact h
    · split
      · exact change _ _ _ _ (by simp [Entry.touches]) h
      · exact skip _ _ h
  | adjust c r p v =>
    simp only [Application.apply]
    split
    · exact h
    · split
      · exact change _ _ _ _ (by simp [Entry.touches]) (answer _ _ h)
      · exact answer _ _ h
  | converge c r p t x l st => exact change _ _ _ _ (by simp [Entry.touches]) h
  | pinArea c0 r0 c1 r1 ps =>
    refine Application.fold_keeps good _ _ (fun b k hk hb => change b k.1 k.2.1 k.2.2 ?_ hb) a h
    exact (namesArea_iff ..).mpr (mem_areaOf.mp hk).2
  | unpinArea c0 r0 c1 r1 ps =>
    refine Application.fold_keeps good _ _ (fun b k hk hb => change b k.1 k.2.1 k.2.2 ?_ hb) a h
    exact (namesArea_iff ..).mpr (mem_areaOf.mp hk).2
  | retire c r => exact Application.fold_keeps good _ _ (fun b p _ hb => change b p r c (by simp [Entry.touches]) hb) a h
  | restore c r => exact Application.fold_keeps good _ _ (fun b p _ hb => change b p r c (by simp [Entry.touches]) hb) a h

/-! ## Trims and hits (R4) -/

/-- A record's trims and hits are in range. -/
abbrev KnotRecord.inRange (k : KnotRecord) : Prop := trimsInRange k.trim ∧ hitsInRange k.hits

/-- Every record of a Grid Store is in range. -/
def GridStore.inRange (g : GridStore) : Prop := ∀ k ∈ g.records, k.inRange

theorem trimInRange_getD {v : Option Int} {t : Int} (hv : valueInRange v) (ht : trimInRange t) :
    trimInRange (v.getD t) := by
  cases v with
  | none => exact ht
  | some x => exact hv x rfl

theorem KnotRecord.written_inRange {k : KnotRecord} (hk : k.inRange) {v : Rgb (Option Int)}
    (hv : valueInRange v.r ∧ valueInRange v.g ∧ valueInRange v.b) (frame : FrameNumber) : (k.written v frame).inRange := by
  obtain ⟨⟨hr, hg, hb⟩, -⟩ := hk
  exact ⟨⟨trimInRange_getD hv.1 hr, trimInRange_getD hv.2.1 hg, trimInRange_getD hv.2.2 hb⟩, Nat.zero_le _, Nat.zero_le _,
    Nat.zero_le _⟩

/-- The mean of trims in range is in range (R10). -/
theorem trimInRange_meanTrim {values : List Int} (h : ∀ v ∈ values, trimInRange v) : trimInRange (meanTrim values) := by
  unfold meanTrim
  split
  · decide
  · next some_value =>
    have low := List.card_nsmul_le_sum values (-8192) fun v hv => (h v hv).1
    have high := List.sum_le_card_nsmul values 8191 fun v hv => (h v hv).2
    have length_pos : 0 < values.length := List.length_pos_iff.mpr (by simpa using some_value)
    simp only [nsmul_eq_mul] at low high
    exact roundDiv_mem_Icc (by omega) ⟨by linarith, by linarith⟩

theorem GridStore.fill_inRange {g : GridStore} (h : g.inRange) (d : Descriptor) (plane row column : Nat) :
    trimsInRange (g.fill d plane row column) := by
  have trims : ∀ t ∈ g.fillTrims d plane row column, trimsInRange t := by
    intro t ht
    obtain ⟨k, -, hk⟩ := List.mem_filterMap.mp ht
    cases hrec : g.record? d plane k.2 k.1 with
    | none => rw [hrec] at hk; cases hk
    | some rec =>
      rw [hrec] at hk
      dsimp only at hk
      split at hk
      · cases hk
      · cases hk
        exact (h rec (List.mem_of_getElem? hrec)).1
  unfold GridStore.fill
  refine ⟨trimInRange_meanTrim ?_, trimInRange_meanTrim ?_, trimInRange_meanTrim ?_⟩ <;>
    · intro v hv
      obtain ⟨t, ht, rfl⟩ := List.mem_map.mp hv
      obtain ⟨hr, hg, hb⟩ := trims t ht
      assumption

/-- What an entry in range makes of a record in range is in range (R41). -/
theorem Entry.change_inRange {e : Entry} (he : e.inRange) {d : Descriptor} {frame : FrameNumber} {a : Application}
    (ha : a.grid.inRange) {p r c : Nat} {old new : KnotRecord} (ho : old.inRange)
    (h : e.change d frame a p r c old = some new) : new.inRange := by
  have noHits : hitsInRange (Rgb.fill 0) := ⟨Nat.zero_le _, Nat.zero_le _, Nat.zero_le _⟩
  cases e with
  | write _ _ _ v => cases h; exact KnotRecord.written_inRange ho he frame
  | adjust _ _ _ deltas =>
    cases h
    have saturated : ∀ (x : Option Int) (t : Int), valueInRange (x.map fun delta => saturate (t + delta)) := by
      intro x t
      cases x with
      | none => exact nofun
      | some y => rintro _ ⟨⟩; exact trimInRange_saturate _
    exact KnotRecord.written_inRange ho ⟨saturated _ _, saturated _ _, saturated _ _⟩ frame
  | converge => cases h; exact he
  | pinArea =>
    simp only [Entry.change] at h
    split at h <;> cases h
    exact ho
  | unpinArea =>
    simp only [Entry.change] at h
    split at h <;> cases h
    exact ⟨ho.1, noHits⟩
  | retire => cases h; exact ⟨GridStore.fill_inRange ha d p r c, noHits⟩
  | restore =>
    simp only [Entry.change] at h
    split at h <;> cases h
    exact ⟨ho.1, noHits⟩

theorem Application.update_inRange {a : Application} (ha : a.grid.inRange) {d : Descriptor} {p r c : Nat}
    {f : KnotRecord → Option KnotRecord} (hf : ∀ old new, old.inRange → f old = some new → new.inRange) :
    (a.update d p r c f).grid.inRange := by
  obtain h | ⟨old, new, ho, hn, h⟩ := a.update_cases d p r c f <;> rw [h]
  · exact ha
  · intro k hk
    rcases List.mem_or_eq_of_mem_set hk with hk | rfl
    · exact ha k hk
    · exact hf old k (ha old (List.mem_of_getElem? ho)) hn

theorem applyEntries_inRange {g : GridStore} {frame : FrameNumber} {entries : List Entry} (hg : g.inRange)
    (he : ∀ e ∈ entries, e.inRange) : (applyEntries g frame entries).grid.inRange :=
  applyEntries_keeps (fun a => a.grid.inRange) g frame entries hg fun _ _ e _ hmem ha =>
    Application.apply_induction (good := fun a => a.grid.inRange) ha
      (fun _ _ _ _ _ hb => Application.update_inRange hb fun _ _ ho hn => Entry.change_inRange (he e hmem) hb ho hn)
      (fun _ _ hb => hb) (fun _ _ hb => hb)

/-! ## A processed reading (R83 to R86) -/

theorem trimInRange_targetTrim (t : Int) (m : Measurement) : trimInRange (targetTrim t m).1 := by
  unfold targetTrim
  split
  · decide
  · exact trimInRange_saturate _

theorem trimInRange_newTrim {l : LoopParameters} (hl : l.inRange) {t target : Int} (ht : trimInRange t)
    (htarget : trimInRange target) : trimInRange (newTrim l t target) := by
  obtain ⟨low, high⟩ := newTrim_sub_mem_Icc hl t target
  exact ⟨by omega, by omega⟩

theorem newHits_le (l : LoopParameters) (h : Nat) (m : Measurement) : newHits l h m ≤ 15 := by
  unfold newHits
  split
  · split <;> omega
  · omega

/-- A channel of a processed reading stays in range, computed or as applied. -/
theorem convergeChannel_inRange {l : LoopParameters} (hl : l.inRange) {t : Int} (ht : trimInRange t) {hits : Nat}
    (hh : hits ≤ 15) (limited : Bool) (v : Option Measurement) :
    trimInRange (convergeChannel l t hits limited v).trim ∧ (convergeChannel l t hits limited v).hits ≤ 15 := by
  cases v with
  | none => exact ⟨ht, hh⟩
  | some m => exact ⟨trimInRange_newTrim hl ht (trimInRange_targetTrim t m), newHits_le ..⟩

theorem convergeEntry_inRange {l : LoopParameters} (hl : l.inRange) {rec : KnotRecord} (hr : rec.inRange) (q : Reading) :
    (convergeEntry l rec q).inRange := by
  obtain ⟨⟨tr, tg, tb⟩, hr, hg, hb⟩ := hr
  have r := convergeChannel_inRange hl tr hr rec.limit.r q.values.r
  have g := convergeChannel_inRange hl tg hg rec.limit.g q.values.g
  have b := convergeChannel_inRange hl tb hb rec.limit.b q.values.b
  exact ⟨⟨r.1, g.1, b.1⟩, r.2, g.2, b.2⟩

/-! ## The invariant (O54) -/

theorem GridStore.inRange_of_no_records {g : GridStore} (h : g.records = []) : g.inRange := by
  intro k hk
  rw [h] at hk
  cases hk

theorem State.contents_trimsSound {s : State} (h : s.grid.inRange) (v : Vector Slot 16) :
    ImageContents.trimsSound { s.contents with slots := v } := by
  rintro d records hgrid
  simp only [State.contents, Option.map_eq_some_iff, Prod.mk.injEq] at hgrid
  obtain ⟨_, -, -, rfl⟩ := hgrid
  intro r hr
  obtain ⟨k, hk, rfl⟩ := List.mem_map.mp hr
  exact (h k hk).1

theorem restoredGrid_inRange {x : ImageContents} (h : x.trimsSound) : (restoredGrid x.grid).inRange := by
  cases hx : x.grid with
  | none => exact GridStore.inRange_of_no_records rfl
  | some g =>
    obtain ⟨d, saved⟩ := g
    intro k hk
    obtain ⟨r, hr, rfl⟩ := List.mem_map.mp hk
    exact ⟨h d saved hx r hr, Nat.zero_le _, Nat.zero_le _, Nat.zero_le _⟩

theorem Effect.trimsSound {i : Instr} {s : State} {c : Call} {a : Answer} (h : Effect i s c a) (hs : s.trimsSound) :
    a.after.trimsSound := by
  obtain ⟨hg, he, hl, hx⟩ := hs
  have contents := h.contentsSatisfy hx (State.contents_trimsSound hg _) (State.contents_trimsSound hg _) fun _ _ _ hx => hx
  refine ⟨?records, ?entries, ?parameters, contents⟩
  case records =>
    cases h with
    | reset => exact GridStore.inRange_of_no_records rfl
    | gridDefined _ _ d =>
      simp only [Answer.after, State.defineGrid, State.judgeConverged_grid, State.setDirty_grid, GridStore.define]
      intro k hk
      rw [List.eq_of_mem_replicate hk]
      exact ⟨⟨by decide, by decide, by decide⟩, by decide, by decide, by decide⟩
    | summaryRead => exact hg
    | _ => simpa [Answer.after] using hg
  case entries =>
    cases h with
    | reset => exact nofun
    | gridDefined => simp [Answer.after, State.defineGrid, State.judgeConverged]
    | placed _ es _ _ _ sound =>
      intro e hmem
      rcases List.mem_append.mp hmem with hmem | hmem
      · exact he e hmem
      · exact (sound e hmem).2.1
    | adjusted e _ _ _ _ _ _ adjust =>
      intro e' hmem
      rcases List.mem_append.mp hmem with hmem | hmem
      · exact he e' hmem
      · rw [List.mem_singleton.mp hmem]
        cases e with
        | adjust => trivial
        | _ => cases adjust
    | _ => simpa [Answer.after] using he
  case parameters =>
    cases h with
    | reset => exact (by decide : State.reset.conv.parameters.inRange)
    | gridDefined => simpa [Answer.after, State.defineGrid, State.judgeConverged] using hl
    | parametersSet _ _ h => exact h
    | readingsTaken => simpa [Answer.after, State.intake] using hl
    | _ => simpa [Answer.after] using hl

theorem State.frameStart_inRange {s : State} (hs : s.trimsSound) (input : Option InputFrame) :
    (s.frameStart input).grid.inRange := by
  obtain ⟨hg, he, -, -⟩ := hs
  rw [State.frameStart_grid]
  split
  · exact applyEntries_inRange hg he
  · exact hg

theorem State.frameStart_entries_subset (s : State) (input : Option InputFrame) :
    ∀ e ∈ (s.frameStart input).queue.entries, e ∈ s.queue.entries := by
  rw [State.frameStart_queue]
  dsimp only
  split
  · exact nofun
  · exact fun _ h => h

theorem Event.trimsSound {i : Instr} {s u : State} (h : Event i s u) (hs : s.trimsSound) : u.trimsSound := by
  have hs' := hs
  obtain ⟨hg, he, hl, hx⟩ := hs
  have contents := h.contentsSatisfy hx fun _ _ _ _ hx => hx
  have reset : State.reset.conv.parameters.inRange := by decide
  cases h with
  | poweredOn | powerLost => exact ⟨nofun, nofun, reset, contents⟩
  | resetAsserted =>
    refine ⟨?_, ?_, ?_, contents⟩ <;> unfold State.assertReset <;> split
    · exact nofun
    · exact hg
    · exact nofun
    · exact he
    · exact reset
    · exact hl
  | resetReleased => unfold State.releaseReset; split <;> exact hs'
  | signalAppeared => exact hs'
  | signalLost =>
    refine ⟨by simpa using hg, ?_, by simpa using hl, contents⟩
    rcases s.signalLost_queue with e | e <;> rw [e] <;> exact he
  | frameStarted =>
    exact ⟨State.frameStart_inRange hs' _, fun e hmem => he e (s.frameStart_entries_subset _ e hmem), by simpa using hl,
      contents⟩
  | inputFrame _ _ f =>
    refine ⟨?_, fun e hmem => he e (s.frameStart_entries_subset (some f) e (by simpa using hmem)), by simpa using hl,
      contents⟩
    rw [State.inputFrame_grid]
    exact State.frameStart_inRange hs' _
  | examined q rest d rec _ _ _ _ record =>
    obtain ⟨_, _, _, hconv⟩ := s.examineHead_conv q rest rec
    refine ⟨by simpa using hg, ?_, by rw [hconv]; exact hl, contents⟩
    rcases s.examineHead_queue q rest rec with e | e <;> rw [e]
    · exact he
    · intro x hmem
      rcases List.mem_append.mp hmem with hmem | hmem
      · exact he x hmem
      · rw [List.mem_singleton.mp hmem]
        exact convergeEntry_inRange hl (hg rec (List.mem_of_getElem? record)) q
  | loadCompleted =>
    refine ⟨?_, by simpa using he, by simpa using hl, contents⟩
    unfold State.completeLoad
    dsimp only
    split
    · exact hg
    · simpa using hg
    · next x image => exact restoredGrid_inRange (hx.complete image)
  | _ => exact ⟨by simpa using hg, by simpa using he, by simpa using hl, contents⟩

/-- Settles O54: an entry in range makes records in range of records in range, and what waits and is saved comes from
them. -/
theorem trimsStayInRange : Obligations.TrimsStayInRange := by
  intro s t hs h
  refine step_keeps h hs (fun _ _ hu => hu) fun i u v hd hu => ?_
  exact hd.keeps hu (fun _ _ _ h => by simpa [State.trimsSound] using h) (fun _ _ _ he => he.trimsSound hu)
    (fun _ he => he.trimsSound hu)

end Sys2Proof.Machine
end

section
/-! PROOFS. Every step keeps the collection the grid's, what waits within the grid, the counts the collection's, and a part
that is STARTING or deaf at rest (O55). -/

namespace Sys2Proof.Machine

open Sys2Proof

/-! ## While the part is STARTING or deaf, nothing runs and nothing waits -/

/-- Nothing runs and nothing waits. -/
def State.atRest (s : State) : Prop :=
  s.store.write = .idle ∧ s.queue.entries = [] ∧ s.conv.readings = [] ∧ s.creds.loading = none

theorem State.atRest_of_starting {s : State} (h : s.startSound) (hs : s.store.startUp ≠ .ready) : s.atRest :=
  h.resolve_left fun hr => hs hr.1

theorem State.atRest_of_deaf {s : State} (h : s.startSound) (hd : s.deaf = true) : s.atRest :=
  h.resolve_left fun hr => by rw [hr.2] at hd; cases hd

/-- A state that is READY and deaf as before stays sound when a part at rest stays at rest. -/
theorem State.startSound_congr {s u : State} (h : s.startSound) (ready : u.store.startUp = s.store.startUp)
    (deaf : u.deaf = s.deaf) (rest : s.atRest → u.atRest) : u.startSound := by
  rcases h with ⟨hr, hd⟩ | h
  · exact .inl ⟨ready.trans hr, deaf.trans hd⟩
  · exact .inr (rest h)

theorem State.deaf_congr {s u : State} (h : u.pins = s.pins) : u.deaf = s.deaf := by
  simp [State.deaf, h]

theorem Effect.startSound {i : Instr} {s : State} {c : Call} {a : Answer} (h : Effect i s c a)
    (ready : s.store.startUp = .ready) (deaf : s.deaf = false) : a.after.startSound := by
  have kept : ∀ u : State, u.store.startUp = s.store.startUp → u.pins = s.pins → u.startSound := fun u hu hp =>
    .inl ⟨hu.trans ready, (State.deaf_congr hp).trans deaf⟩
  cases h with
  | reset => exact .inr ⟨rfl, rfl, rfl, rfl⟩
  | gridDefined => refine kept _ ?_ ?_ <;> simp [Answer.after, State.defineGrid, State.judgeConverged]
  | _ => refine kept _ ?_ ?_ <;> simp [Answer.after]

theorem State.frameStart_atRest {s : State} (h : s.atRest) (input : Option InputFrame) : (s.frameStart input).atRest := by
  obtain ⟨write, entries, readings, loading⟩ := h
  refine ⟨?_, ?_, by simpa using readings, ?_⟩
  · rw [State.frameStart_store]; exact write
  · refine List.eq_nil_iff_forall_not_mem.mpr fun e he => ?_
    have := s.frameStart_entries_subset input e he
    rw [entries] at this
    cases this
  · rw [State.frameStart_creds, State.addGap_creds, loading]
    exact loading

theorem Event.startSound {i : Instr} {s u : State} (h : Event i s u) (hs : s.startSound) : u.startSound := by
  have started : ∀ input, (s.frameStart input).startSound := fun input =>
    State.startSound_congr hs (by rw [State.frameStart_store]) (State.deaf_congr (by simp)) (s.frameStart_atRest · input)
  cases h with
  | poweredOn | powerLost => exact .inr ⟨rfl, rfl, rfl, rfl⟩
  | resetAsserted =>
    unfold State.assertReset
    split
    · exact .inr ⟨rfl, rfl, rfl, rfl⟩
    · next supply =>
      have rest := State.atRest_of_deaf hs (by simp [State.deaf, supply])
      exact .inr rest
  | resetReleased asserted =>
    have rest := State.atRest_of_deaf hs (by simp [State.deaf, asserted])
    unfold State.releaseReset
    split <;> exact .inr rest
  | signalAppeared => exact hs
  | signalLost =>
    refine State.startSound_congr hs (by simp) (by simp [State.deaf, State.signalLost_pins_eq]) fun h => ?_
    obtain ⟨write, entries, readings, loading⟩ := h
    refine ⟨by simpa using write, ?_, by simpa using readings, by simpa using loading⟩
    rcases s.signalLost_queue with e | e <;> rw [e] <;> exact entries
  | frameStarted => exact started _
  | inputFrame _ _ f =>
    simpa [State.startSound, State.deaf] using started (some f)
  | loadAbandoned l loading =>
    refine State.startSound_congr hs (by simp) (State.deaf_congr (by simp)) fun h => ?_
    rw [h.2.2.2] at loading
    cases loading
  | examined q rest d rec _ head =>
    refine State.startSound_congr hs (by simp) (State.deaf_congr (by simp)) fun h => ?_
    rw [h.2.2.1] at head
    cases head
  | saveFinished result x _ write =>
    refine State.startSound_congr hs ?_ (State.deaf_congr (by simp)) fun h => ?_
    · rw [State.finishSave_store]; cases result <;> rfl
    · rw [h.1] at write; cases write
  | revocationFinished result p k write =>
    refine State.startSound_congr hs ?_ (State.deaf_congr (by simp)) fun h => ?_
    · rw [State.finishRevocation_store]; cases result <;> rfl
    · rw [h.1] at write; cases write
  | loadCompleted _ _ loads =>
    obtain ⟨write, entries, readings, loading⟩ := State.atRest_of_starting hs (by rw [loads]; exact nofun)
    refine .inr ⟨by simpa using write, by simpa using entries, by simpa using readings, ?_⟩
    unfold State.completeLoad
    dsimp only
    split
    · exact loading
    · simpa using loading
    · rfl
  | _ =>
    refine State.startSound_congr hs (by simp) (State.deaf_congr (by simp)) fun h => ?_
    simpa [State.atRest] using h

/-! ## Counts (R13) -/

theorem StateCounts.ofRecords_fresh (n : Nat) :
    StateCounts.ofRecords (List.replicate n KnotRecord.fresh) = StateCounts.allUnset n := by
  simp [StateCounts.ofRecords, StateCounts.allUnset, List.countP_replicate, KnotRecord.fresh]

/-- The counts of a newly defined grid are those of its records (R13, R17). -/
theorem countsOf_fresh (d : Descriptor) :
    List.replicate d.planes (StateCounts.allUnset d.knots) = countsOf d (List.replicate d.triples KnotRecord.fresh) := by
  refine List.ext_getElem (by simp [countsOf]) fun p hp _ => ?_
  rw [List.length_replicate] at hp
  have plane : d.knots ≤ d.triples - p * d.knots := by
    have h : (p + 1) * d.knots ≤ d.planes * d.knots := Nat.mul_le_mul_right _ hp
    have e : d.triples = d.planes * d.knots := Nat.mul_comm _ _
    rw [Nat.add_mul] at h
    omega
  simp [countsOf, StateCounts.ofRecords_fresh, Nat.min_eq_left plane]

theorem Entry.within_of_touches {e : Entry} {d : Descriptor} (he : e.within d) {c r p : Nat}
    (h : e.touches c r p = true) : r < d.rows ∧ c < d.columns := by
  cases e with
  | write | adjust | converge =>
    cases (namesRecord_iff ..).mp h
    exact ⟨he.2.1, he.1⟩
  | pinArea | unpinArea =>
    obtain ⟨⟨-, hc⟩, ⟨-, hr⟩, -⟩ := (namesArea_iff ..).mp h
    exact ⟨hr.trans_lt he.2, hc.trans_lt he.1⟩
  | retire | restore =>
    cases (namesKnot_iff ..).mp h
    exact ⟨he.2, he.1⟩

/-- An application of entries within the grid keeps the counts those of the records. -/
theorem applyEntries_counts {g : GridStore} {d : Descriptor} {frame : FrameNumber} {entries : List Entry}
    (hd : g.descriptor = some d) (hg : g.counts = countsOf d g.records) (he : ∀ e ∈ entries, e.within d) :
    (applyEntries g frame entries).grid.counts = countsOf d (applyEntries g frame entries).grid.records := by
  refine applyEntries_keeps (fun a => a.grid.counts = countsOf d a.grid.records) g frame entries hg ?_
  intro d' a e hd' hmem ha
  obtain rfl : d = d' := Option.some.inj (hd.symm.trans hd')
  refine Application.apply_induction (good := fun a => a.grid.counts = countsOf d a.grid.records) ha ?_
    (fun _ _ hb => hb) (fun _ _ hb => hb)
  intro b p r c touched hb
  obtain ⟨hr, hc⟩ := Entry.within_of_touches (he e hmem) touched
  exact Application.update_counts hr hc hb

theorem applyEntries_no_grid {g : GridStore} (h : g.descriptor = none) (frame : FrameNumber) (entries : List Entry) :
    (applyEntries g frame entries).grid = g := by
  simp [applyEntries, h]

/-! ## The invariant (O55) -/

/-- The part's collection, what waits, its rest while STARTING, and its counts. -/
structure State.collectionSound (s : State) : Prop where
  grid : s.gridSound
  within : s.queuesWithinGrid
  start : s.startSound
  counts : s.grid.countsSound

theorem State.queuesWithinGrid_none {s : State} (h : s.grid.descriptor = none) :
    s.queuesWithinGrid ↔ s.queue.entries = [] ∧ s.conv.readings = [] := by
  simp only [State.queuesWithinGrid, h]

theorem State.queuesWithinGrid_some {s : State} {d : Descriptor} (h : s.grid.descriptor = some d) :
    s.queuesWithinGrid ↔ (∀ e ∈ s.queue.entries, e.within d) ∧
      ∀ q ∈ s.conv.readings, q.column < d.columns ∧ q.row < d.rows ∧ q.plane < d.planes := by
  simp only [State.queuesWithinGrid, h]

theorem State.queuesWithinGrid_of_empty {s : State} (he : s.queue.entries = []) (hr : s.conv.readings = []) :
    s.queuesWithinGrid := by
  cases h : s.grid.descriptor with
  | none => exact (State.queuesWithinGrid_none h).mpr ⟨he, hr⟩
  | some d => exact (State.queuesWithinGrid_some h).mpr ⟨by simp [he], by simp [hr]⟩

/-- A state whose queues hold no more than another's, over the same grid. -/
theorem State.queuesWithinGrid_mono {s u : State} (h : s.queuesWithinGrid) (grid : u.grid.descriptor = s.grid.descriptor)
    (entries : ∀ e ∈ u.queue.entries, e ∈ s.queue.entries) (readings : ∀ q ∈ u.conv.readings, q ∈ s.conv.readings) :
    u.queuesWithinGrid := by
  cases hd : s.grid.descriptor with
  | none =>
    obtain ⟨he, hr⟩ := (State.queuesWithinGrid_none hd).mp h
    rw [he] at entries
    rw [hr] at readings
    exact (State.queuesWithinGrid_none (grid.trans hd)).mpr
      ⟨List.eq_nil_iff_forall_not_mem.mpr fun e he => (nomatch entries e he),
        List.eq_nil_iff_forall_not_mem.mpr fun q hq => (nomatch readings q hq)⟩
  | some d =>
    obtain ⟨he, hr⟩ := (State.queuesWithinGrid_some hd).mp h
    exact (State.queuesWithinGrid_some (grid.trans hd)).mpr
      ⟨fun e hmem => he e (entries e hmem), fun q hmem => hr q (readings q hmem)⟩

theorem GridStore.shapeSound_none {g : GridStore} (hd : g.descriptor = none) (hr : g.records = []) : g.shapeSound :=
  ⟨fun _ => hr, fun _ h => nomatch hd.symm.trans h⟩

theorem GridStore.countsSound_none {g : GridStore} (hd : g.descriptor = none) (hc : g.counts = []) : g.countsSound :=
  ⟨fun _ => hc, fun _ h => nomatch hd.symm.trans h⟩

theorem GridStore.shapeSound_some {g : GridStore} {d : Descriptor} (hd : g.descriptor = some d) (sound : d.sound)
    (length : g.records.length = d.triples) : g.shapeSound :=
  ⟨fun h => (nomatch hd.symm.trans h), fun _ h => Option.some.inj (hd.symm.trans h) ▸ ⟨sound, length⟩⟩

theorem GridStore.countsSound_some {g : GridStore} {d : Descriptor} (hd : g.descriptor = some d)
    (counts : g.counts = countsOf d g.records) : g.countsSound :=
  ⟨fun h => (nomatch hd.symm.trans h), fun _ h => Option.some.inj (hd.symm.trans h) ▸ counts⟩

theorem State.contents_gridSound {s : State} (h : s.grid.shapeSound) (v : Vector Slot 16) :
    ImageContents.gridSound { s.contents with slots := v } := by
  rintro d records hgrid
  simp only [State.contents, Option.map_eq_some_iff, Prod.mk.injEq] at hgrid
  obtain ⟨_, hd, rfl, rfl⟩ := hgrid
  simpa using h.2 _ hd

theorem Effect.queuesWithinGrid {i : Instr} {s : State} {c : Call} {a : Answer} (h : Effect i s c a)
    (hs : s.queuesWithinGrid) : a.after.queuesWithinGrid := by
  cases h with
  | reset => exact State.queuesWithinGrid_of_empty rfl rfl
  | gridDefined => refine State.queuesWithinGrid_of_empty ?_ ?_ <;> simp [Answer.after, State.defineGrid, State.judgeConverged]
  | placed _ es d grid _ sound =>
    obtain ⟨he, hr⟩ := (State.queuesWithinGrid_some grid).mp hs
    refine (State.queuesWithinGrid_some (s := s.place es) (d := d) grid).mpr ⟨fun e hmem => ?_, hr⟩
    exact (List.mem_append.mp hmem).elim (he e) fun hmem => (sound e hmem).1
  | adjusted e d grid _ _ _ within =>
    obtain ⟨he, hr⟩ := (State.queuesWithinGrid_some grid).mp hs
    refine (State.queuesWithinGrid_some (s := s.place [e]) (d := d) grid).mpr ⟨fun e' hmem => ?_, hr⟩
    exact (List.mem_append.mp hmem).elim (he e') fun hmem => List.mem_singleton.mp hmem ▸ within
  | readingsTaken _ b d grid _ plane within =>
    obtain ⟨he, hr⟩ := (State.queuesWithinGrid_some grid).mp hs
    refine (State.queuesWithinGrid_some (d := d) (by simpa [Answer.after] using grid)).mpr
      ⟨by simpa [Answer.after] using he, fun q hmem => ?_⟩
    simp only [Answer.after, State.intake, State.raiseIf_conv] at hmem
    rcases List.mem_append.mp hmem with hmem | hmem
    · exact hr q hmem
    · obtain ⟨x, hx, rfl⟩ := List.mem_map.mp hmem
      exact ⟨(within x hx).1, (within x hx).2, plane⟩
  | _ => refine State.queuesWithinGrid_mono hs ?_ ?_ ?_ <;> simp [Answer.after]

theorem Effect.collectionSound {i : Instr} {s : State} {c : Call} {a : Answer} (h : Effect i s c a)
    (hr : s.store.startUp = .ready ∧ s.deaf = false ∨ a.after = s) (hs : s.collectionSound) :
    a.after.collectionSound := by
  rcases hr with ⟨ready, deaf⟩ | same
  case inr => rw [same]; exact hs
  obtain ⟨⟨hg, hx⟩, hw, -, hc⟩ := hs
  have contents := h.contentsSatisfy hx (State.contents_gridSound hg _) (State.contents_gridSound hg _) fun _ _ _ hx => hx
  refine ⟨⟨?shape, contents⟩, h.queuesWithinGrid hw, h.startSound ready deaf, ?counts⟩
  case shape =>
    cases h with
    | reset => exact GridStore.shapeSound_none rfl rfl
    | gridDefined _ _ d sound =>
      exact GridStore.shapeSound_some (d := d) (by simp [Answer.after, State.defineGrid, GridStore.define]) sound
        (by simp [Answer.after, State.defineGrid, GridStore.define])
    | summaryRead => exact hg
    | _ => simpa [Answer.after] using hg
  case counts =>
    cases h with
    | reset => exact GridStore.countsSound_none rfl rfl
    | gridDefined _ _ d =>
      exact GridStore.countsSound_some (d := d) (by simp [Answer.after, State.defineGrid, GridStore.define])
        (by simpa [Answer.after, State.defineGrid, GridStore.define] using countsOf_fresh d)
    | summaryRead => exact hc
    | _ => simpa [Answer.after] using hc

theorem State.frameStart_descriptor (s : State) (input : Option InputFrame) :
    (s.frameStart input).grid.descriptor = s.grid.descriptor := by
  rw [State.frameStart_grid]
  split
  · exact applyEntries_descriptor ..
  · rfl

theorem State.frameStart_records_length (s : State) (input : Option InputFrame) :
    (s.frameStart input).grid.records.length = s.grid.records.length := by
  rw [State.frameStart_grid]
  split
  · exact applyEntries_length ..
  · rfl

theorem State.frameStart_shapeSound {s : State} (hs : s.grid.shapeSound) (input : Option InputFrame) :
    (s.frameStart input).grid.shapeSound := by
  refine ⟨fun hd => ?_, fun d hd => ?_⟩
  · rw [State.frameStart_descriptor] at hd
    rw [← List.length_eq_zero_iff, State.frameStart_records_length, hs.1 hd]
    rfl
  · rw [State.frameStart_descriptor] at hd
    rw [State.frameStart_records_length]
    exact hs.2 d hd

theorem State.frameStart_countsSound {s : State} (hs : s.grid.countsSound) (hw : s.queuesWithinGrid)
    (input : Option InputFrame) : (s.frameStart input).grid.countsSound := by
  rw [State.frameStart_grid]
  split
  · cases hd : s.grid.descriptor with
    | none =>
      have same : s.applied.grid = s.grid := applyEntries_no_grid hd _ _
      rw [same]
      exact GridStore.countsSound_none hd (hs.1 hd)
    | some d =>
      exact GridStore.countsSound_some (d := d) ((applyEntries_descriptor ..).trans hd)
        (applyEntries_counts hd (hs.2 d hd) ((State.queuesWithinGrid_some hd).mp hw).1)
  · exact hs

theorem State.frameStart_queuesWithinGrid {s : State} (hw : s.queuesWithinGrid) (input : Option InputFrame) :
    (s.frameStart input).queuesWithinGrid :=
  State.queuesWithinGrid_mono hw (s.frameStart_descriptor input) (s.frameStart_entries_subset input) (by simp)

theorem restoredGrid_sound {x : ImageContents} (h : x.gridSound) :
    (restoredGrid x.grid).shapeSound ∧ (restoredGrid x.grid).countsSound := by
  cases hx : x.grid with
  | none => exact ⟨GridStore.shapeSound_none rfl rfl, GridStore.countsSound_none rfl rfl⟩
  | some g =>
    obtain ⟨d, saved⟩ := g
    obtain ⟨sound, length⟩ := h d saved hx
    exact ⟨GridStore.shapeSound_some (d := d) rfl sound (by simpa [restoredGrid] using length),
      GridStore.countsSound_some (d := d) rfl rfl⟩

theorem Event.collectionSound {i : Instr} {s u : State} (h : Event i s u) (hs : s.collectionSound) :
    u.collectionSound := by
  have start := h.startSound hs.start
  have hs' := hs
  obtain ⟨⟨hg, hx⟩, hw, hst, hc⟩ := hs
  have contents := h.contentsSatisfy hx fun _ _ _ _ hx => hx
  have none_shape := GridStore.shapeSound_none (g := State.reset.grid) rfl rfl
  have none_counts := GridStore.countsSound_none (g := State.reset.grid) rfl rfl
  cases h with
  | poweredOn | powerLost =>
    exact ⟨⟨none_shape, contents⟩, State.queuesWithinGrid_of_empty rfl rfl, start, none_counts⟩
  | resetAsserted =>
    by_cases supply : s.pins.supply = true
    · have e : s.assertReset =
          ({ s with pins := { s.pins with resetAsserted := true } } : State).volatileReset .waiting := by
        simp [State.assertReset, supply]
      rw [e] at contents start ⊢
      exact ⟨⟨none_shape, contents⟩, State.queuesWithinGrid_of_empty rfl rfl, start, none_counts⟩
    · have e : s.assertReset = { s with pins := { s.pins with resetAsserted := true } } := by
        simp [State.assertReset, supply]
      rw [e] at contents start ⊢
      exact ⟨⟨hg, hx⟩, hw, start, hc⟩
  | resetReleased asserted =>
    refine ⟨⟨?_, contents⟩, ?_, start, ?_⟩ <;> unfold State.releaseReset <;> split
    · exact hg
    · exact hg
    · exact hw
    · exact hw
    · exact hc
    · exact hc
  | signalAppeared => exact ⟨⟨hg, hx⟩, hw, start, hc⟩
  | signalLost =>
    refine ⟨⟨by simpa using hg, contents⟩, ?_, start, by simpa using hc⟩
    refine State.queuesWithinGrid_mono hw (by simp) ?_ (by simp)
    rcases s.signalLost_queue with e | e <;> rw [e] <;> exact fun _ h => h
  | frameStarted =>
    exact ⟨⟨State.frameStart_shapeSound hg _, contents⟩, State.frameStart_queuesWithinGrid hw _, start,
      State.frameStart_countsSound hc hw _⟩
  | inputFrame _ _ f =>
    refine ⟨⟨?_, contents⟩, ?_, start, ?_⟩
    · rw [State.inputFrame_grid]; exact State.frameStart_shapeSound hg _
    · exact State.queuesWithinGrid_mono (State.frameStart_queuesWithinGrid hw (some f)) (by simp) (by simp) (by simp)
    · rw [State.inputFrame_grid]; exact State.frameStart_countsSound hc hw _
  | examined q rest d rec _ head _ grid =>
    obtain ⟨_, _, _, hconv⟩ := s.examineHead_conv q rest rec
    obtain ⟨he, hr⟩ := (State.queuesWithinGrid_some grid).mp hw
    rw [head] at hr
    refine ⟨⟨by simpa using hg, contents⟩, ?_, start, by simpa using hc⟩
    refine (State.queuesWithinGrid_some (d := d) (by simpa using grid)).mpr ⟨?_, ?_⟩
    · rcases s.examineHead_queue q rest rec with e | e <;> rw [e]
      · exact he
      · intro x hmem
        exact (List.mem_append.mp hmem).elim (he x) fun hmem => List.mem_singleton.mp hmem ▸ hr q (.head _)
    · rw [hconv]
      exact fun x hx => hr x (.tail _ hx)
  | loadCompleted _ _ loads =>
    obtain ⟨-, entries, readings, -⟩ := State.atRest_of_starting hst (by rw [loads]; exact nofun)
    have sound : s.completeLoad.grid.shapeSound ∧ s.completeLoad.grid.countsSound := by
      unfold State.completeLoad
      dsimp only
      split
      · exact ⟨hg, hc⟩
      · simpa using ⟨hg, hc⟩
      · next x image => exact restoredGrid_sound (hx.complete image)
    exact ⟨⟨sound.1, contents⟩, State.queuesWithinGrid_of_empty (by simpa using entries) (by simpa using readings), start,
      sound.2⟩
  | _ =>
    refine ⟨⟨by simpa using hg, contents⟩, ?_, start, by simpa using hc⟩
    refine State.queuesWithinGrid_mono hw ?_ ?_ ?_ <;> simp

/-- Settles O55: entries within the grid move the counts with the records, and the load meets empty queues. -/
theorem collectionAndCountsStaySound : Obligations.CollectionAndCountsStaySound := by
  intro s t hg hw hst hc h
  have sound : t.collectionSound := by
    refine step_keeps h ⟨hg, hw, hst, hc⟩ (fun _ _ hu => ⟨hu.grid, hu.within, hu.start, hu.counts⟩) fun i u v hd hu => ?_
    refine hd.keeps hu (fun w p q hw => ⟨?_, ?_, ?_, ?_⟩) (fun _ _ hr he => he.collectionSound hr hu)
      (fun _ he => he.collectionSound hu)
    · simpa [State.gridSound] using hw.grid
    · simpa [State.queuesWithinGrid] using hw.within
    · simpa [State.startSound, State.deaf] using hw.start
    · simpa using hw.counts
  exact ⟨sound.grid, sound.within, sound.start, sound.counts⟩

end Sys2Proof.Machine
end

section
/-! PROOFS. Every step keeps mode and fuse in agreement and the shipping indicator with its save; only the OK end of Ship
sets the fuse (O56). -/

namespace Sys2Proof.Machine

open Sys2Proof

theorem State.saveRuns_of_saving {s : State} {x : ImageContents} (h : s.store.write = .saving x) : s.saveRuns = true := by
  simp [State.saveRuns, h]

theorem State.saveRuns_congr {s u : State} (h : u.store.write = s.store.write) : u.saveRuns = s.saveRuns := by
  simp [State.saveRuns, h]

/-- The shipping indicator is clear while a save does not run. -/
theorem State.not_shipping {s : State} (hs : s.modesSound) (h : s.saveRuns = false) : s.modes.shipping = false :=
  Bool.eq_false_iff.mpr fun hship => by rw [(hs.2.2.1 hship).1] at h; cases h

theorem State.modesSound_congr {s u : State} (hs : s.modesSound) (modes : u.modes = s.modes)
    (write : u.store.write = s.store.write) : u.modesSound := by
  simpa only [State.modesSound, modes, State.saveRuns_congr write] using hs

/-- A write begins or ends on a part that ships nothing. -/
theorem State.modesSound_of_not_shipping {s u : State} (hs : s.modesSound) (modes : u.modes = s.modes)
    (ship : s.modes.shipping = false) : u.modesSound := by
  obtain ⟨fuse, few, -, bound⟩ := hs
  rw [State.modesSound, modes]
  exact ⟨fuse, few, fun h => absurd (ship.symm.trans h) nofun, bound⟩

/-- What a reset leaves of the modes: settled by the fuse (R143). -/
theorem State.modesSound_of_reset {s u : State} (hs : s.modesSound) {n : Nat} (few : n ≤ s.modes.failures)
    (modes : u.modes = { State.reset.modes with
      mode := if s.modes.fuse then .field else .factory, fuse := s.modes.fuse, failures := n }) : u.modesSound := by
  rw [State.modesSound, modes]
  refine ⟨?_, few.trans hs.2.1, nofun, fun _ => rfl⟩
  cases s.modes.fuse <;> simp

theorem Effect.modesSound {i : Instr} {s : State} {c : Call} {a : Answer} (h : Effect i s c a) (hs : s.modesSound) :
    a.after.modesSound := by
  cases h with
  | reset => exact State.modesSound_of_reset hs le_rfl rfl
  | gridDefined =>
    refine State.modesSound_congr hs ?_ ?_ <;> simp [Answer.after, State.defineGrid, State.judgeConverged]
  | revocationBegun _ _ _ _ _ _ _ _ ship => exact State.modesSound_of_not_shipping hs rfl ship
  | saveBegun _ _ ship => exact State.modesSound_of_not_shipping hs rfl ship
  | shipped _ mode =>
    obtain ⟨fuse, few, -, -⟩ := hs
    have saves : s.takeShip.saveRuns = true := State.saveRuns_of_saving (by rw [State.takeShip_store])
    simp only [Answer.after, State.modesSound, State.takeShip_modes]
    exact ⟨fuse, few, fun _ => ⟨saves, mode⟩, nofun⟩
  | reopened _ mode =>
    obtain ⟨fuse, -, ship, bound⟩ := hs
    have clear : s.modes.shipping = false := Bool.eq_false_iff.mpr fun h => (ship h).2 mode
    refine ⟨?_, Nat.zero_le _, fun h => ?_, bound⟩
    · rw [mode] at fuse
      simpa [Answer.after] using fuse
    · rw [Answer.after, clear] at h; cases h
  | reopenFailed _ few =>
    obtain ⟨fuse, -, ship, bound⟩ := hs
    simp only [Answer.after, State.modesSound, State.raiseIf_modes]
    exact ⟨fuse, few, fun h => ⟨(State.saveRuns_congr (by simp)).trans (ship h).1, (ship h).2⟩, bound⟩
  | _ => refine State.modesSound_congr hs ?_ ?_ <;> simp [Answer.after]

theorem Event.modesSound {i : Instr} {s u : State} (h : Event i s u) (hs : s.modesSound) : u.modesSound := by
  cases h with
  | poweredOn | powerLost => exact State.modesSound_of_reset hs (Nat.zero_le _) rfl
  | resetAsserted =>
    unfold State.assertReset
    split
    · exact State.modesSound_of_reset hs le_rfl rfl
    · exact hs
  | resetReleased => unfold State.releaseReset; split <;> exact hs
  | signalAppeared => exact hs
  | frameStarted | inputFrame => refine State.modesSound_congr hs ?_ ?_ <;> simp [State.frameStart_store]
  | saveFinished result x _ write =>
    obtain ⟨fuse, few, ship, bound⟩ := hs
    rw [State.modesSound, State.finishSave_modes]
    split
    · cases result
      · exact ⟨by simp, few, nofun, fun _ => rfl⟩
      · exact ⟨fuse, few, nofun, fun _ => rfl⟩
    · next clear => exact ⟨fuse, few, fun h => absurd h clear, bound⟩
  | revocationFinished result p k write =>
    refine State.modesSound_of_not_shipping hs (by simp) (State.not_shipping hs ?_)
    simp [State.saveRuns, write]
  | loadCompleted => refine State.modesSound_congr hs ?_ ?_ <;> simp
  | _ => refine State.modesSound_congr hs ?_ ?_ <;> simp

/-- A command leaves the fuse, but for the OK end of a Ship, which sets it with FIELD mode. -/
def State.fuseSetByShip (i : Instr) (s t : State) : Prop :=
  t.modes.fuse = s.modes.fuse ∨
    (t.modes.fuse = true ∧ i = .saveCompletion .ok ∧ s.modes.shipping = true ∧ t.modes.mode = .field)

theorem Effect.fuseSetByShip {i : Instr} {s : State} {c : Call} {a : Answer} (h : Effect i s c a) :
    s.fuseSetByShip i a.after := by
  cases h with
  | reset | reopened => exact .inl rfl
  | gridDefined => left; simp [Answer.after, State.defineGrid, State.judgeConverged]
  | _ => left; simp [Answer.after]

theorem Event.fuseSetByShip {i : Instr} {s u : State} (h : Event i s u) : s.fuseSetByShip i u := by
  cases h with
  | poweredOn | powerLost | signalAppeared => exact .inl rfl
  | resetAsserted => unfold State.assertReset; split <;> exact .inl rfl
  | resetReleased => unfold State.releaseReset; split <;> exact .inl rfl
  | saveFinished result x hi =>
    unfold State.fuseSetByShip
    rw [State.finishSave_modes]
    split
    · next ship =>
      cases result
      · exact .inr ⟨rfl, hi, ship, rfl⟩
      · exact .inl rfl
    · exact .inl rfl
  | _ => left; simp

theorem exec_fuseSetByShip {i : Instr} {s t : State} (h : exec i s = .next t) : s.fuseSetByShip i t :=
  (exec_done h).keeps (good := s.fuseSetByShip i) (.inl rfl) (fun u p q hu => by simpa [State.fuseSetByShip] using hu)
    (fun _ _ _ he => he.fuseSetByShip) (fun _ he => he.fuseSetByShip)

/-- Settles O56: no owning block touches the fuse, and of the events only the end of a save does. -/
theorem modesStaySoundAndShipSetsTheFuse : Obligations.ModesStaySoundAndShipSetsTheFuse := by
  refine ⟨fun s t hs h => ?_, fun i s t h => ⟨fun before => ?_, fun before after => ?_⟩⟩
  · refine step_keeps h hs (fun _ _ hu => hu) fun i u v hd hu => ?_
    exact hd.keeps hu (fun _ _ _ h => State.modesSound_congr h (by simp) (by simp)) (fun _ _ _ he => he.modesSound hu)
      (fun _ he => he.modesSound hu)
  · rcases exec_fuseSetByShip h with same | ⟨set, -⟩
    · rw [same, before]
    · exact set
  · rcases exec_fuseSetByShip h with same | ⟨-, set⟩
    · rw [same, before] at after; cases after
    · exact set

end Sys2Proof.Machine
end

section
/-! PROOFS. Every step keeps the profiles of the Region Table and of the image sound and the latched ceiling in range
(O57). -/

namespace Sys2Proof.Machine

open Sys2Proof

/-! ## Tables -/

/-- What a table holds after one entry is replaced. -/
theorem table_set_get {α : Type} {n : Nat} (v : Vector α n) (k i : Fin n) (x : α) :
    (v.set k x)[i] = if i = k then x else v[i] := by
  rw [Fin.getElem_fin, Vector.getElem_set]
  by_cases h : i = k
  · simp [h]
  · rw [if_neg (fun e => h (Fin.ext e.symm)), if_neg h]
    rfl

/-! ## Profiles -/

theorem Profile.carries_held (st : ProfileState) (r : Region) : (Profile.held st r).carries r.code = true := by
  simp [Profile.carries]

/-- Profiles that are others' with other states are sound when at most one of them is ACTIVE. -/
theorem profilesSound_of_fields {v w : Vector Profile 8} (h : profilesSound v)
    (fields : ∀ i : Fin 8, ∀ st r, w[i] = .held st r → ∃ st', v[i] = .held st' r)
    (active : ∀ i j : Fin 8, ∀ x y, w[i] = .held .active x → w[j] = .held .active y → i = j) : profilesSound w := by
  obtain ⟨sound, code, -⟩ := h
  refine ⟨fun i st r hi => ?_, fun i j a b x y hi hj e => ?_, active⟩
  · obtain ⟨_, hv⟩ := fields i st r hi
    exact sound i _ r hv
  · obtain ⟨_, hx⟩ := fields i a x hi
    obtain ⟨_, hy⟩ := fields j b y hj
    exact code i j _ _ x y hx hy e

/-- A profile that is not ACTIVE replaces one without taking a code that another carries. -/
theorem profilesSound_set_stored {v : Vector Profile 8} (h : profilesSound v) (k : Fin 8) {r : Region} (hr : r.sound)
    (new : ∀ j : Fin 8, j ≠ k → v[j].carries r.code = false) : profilesSound (v.set k (.held .stored r)) := by
  obtain ⟨sound, code, active⟩ := h
  have other : ∀ j : Fin 8, ∀ st y, j ≠ k → v[j] = .held st y → y.code ≠ r.code := fun j st y hj hy e => by
    have := new j hj
    rw [hy, ← e, Profile.carries_held] at this
    cases this
  refine ⟨fun i st x hi => ?_, fun i j a b x y hi hj e => ?_, fun i j x y hi hj => ?_⟩ <;> rw [table_set_get] at hi
  · split at hi
    · cases hi; exact hr
    · exact sound i st x hi
  · rw [table_set_get] at hj
    split at hi <;> split at hj
    · exact ‹i = k›.trans ‹j = k›.symm
    · cases hi; exact absurd e.symm (other j b y ‹_› hj)
    · cases hj; exact absurd e (other i a x ‹_› hi)
    · exact code i j a b x y hi hj e
  · rw [table_set_get] at hj
    split at hi
    · cases hi
    · split at hj
      · cases hj
      · exact active i j x y hi hj

/-- A profile retired keeps its fields. -/
theorem profilesSound_set_retired {v : Vector Profile 8} (h : profilesSound v) {k : Fin 8} {st : ProfileState} {r : Region}
    (hk : v[k] = .held st r) : profilesSound (v.set k (.held .retired r)) := by
  refine profilesSound_of_fields h (fun i st' x hi => ?_) fun i j x y hi hj => ?_ <;> rw [table_set_get] at hi
  · split at hi
    · next e => cases hi; subst e; exact ⟨st, hk⟩
    · exact ⟨st', hi⟩
  · rw [table_set_get] at hj
    split at hi
    · cases hi
    · split at hj
      · cases hj
      · exact h.2.2 i j x y hi hj

theorem profilesSound_set_empty {v : Vector Profile 8} (h : profilesSound v) (k : Fin 8) :
    profilesSound (v.set k .empty) := by
  refine profilesSound_of_fields h (fun i st' x hi => ?_) fun i j x y hi hj => ?_ <;> rw [table_set_get] at hi
  · split at hi
    · cases hi
    · exact ⟨st', hi⟩
  · rw [table_set_get] at hj
    split at hi
    · cases hi
    · split at hj
      · cases hj
      · exact h.2.2 i j x y hi hj

/-- A former ACTIVE profile is STORED, any other is itself; its fields stay (R120). -/
theorem Profile.demote_held {p : Profile} {st : ProfileState} {r : Region} (h : p.demote = .held st r) :
    st ≠ .active ∧ ∃ st', p = .held st' r := by
  cases p with
  | empty => cases h
  | held st' r' => cases st' <;> cases h <;> exact ⟨nofun, _, rfl⟩

/-- What each index holds after a selection has taken effect (R120). -/
theorem RegionTable.takeEffect_profile {t : RegionTable} {k : Fin 8} (h : t.selection = some k) (i : Fin 8) :
    t.takeEffect.profiles[i] = if i = k then t.profiles[k].moveTo .active else t.profiles[i].demote := by
  unfold RegionTable.takeEffect
  rw [h]
  dsimp only
  rw [table_set_get, mapTable_get]

@[simp] theorem RegionTable.takeEffect_selection (t : RegionTable) : t.takeEffect.selection = none := by
  unfold RegionTable.takeEffect
  split
  · assumption
  · rfl

theorem RegionTable.takeEffect_profilesSound {t : RegionTable} (h : profilesSound t.profiles) :
    profilesSound t.takeEffect.profiles := by
  cases hk : t.selection with
  | none => simpa [RegionTable.takeEffect, hk] using h
  | some k =>
    have at_k : ∀ i x, t.takeEffect.profiles[i] = .held .active x → i = k := fun i x hi => by
      rw [RegionTable.takeEffect_profile hk] at hi
      split at hi
      · assumption
      · exact absurd rfl (Profile.demote_held hi).1
    refine profilesSound_of_fields h (fun i st r hi => ?_) fun i j x y hi hj => (at_k i x hi).trans (at_k j y hj).symm
    rw [RegionTable.takeEffect_profile hk] at hi
    split at hi
    · next e =>
      subst e
      cases hp : t.profiles[i] <;> rw [hp] at hi <;> cases hi
      exact ⟨_, rfl⟩
    · exact (Profile.demote_held hi).2

theorem profilesSound_reset : profilesSound State.reset.regions.profiles := by
  have empty : ∀ i : Fin 8, ∀ st r, State.reset.regions.profiles[i] ≠ .held st r := fun i st r => by
    have : ∀ i : Fin 8, State.reset.regions.profiles[i] = .empty := by decide
    rw [this i]
    exact nofun
  exact ⟨fun i st r h => absurd h (empty i st r), fun i j a b x y h => absurd h (empty i a x),
    fun i j x y h => absurd h (empty i _ x)⟩

/-- The active profile is one of the table's. -/
theorem RegionTable.held_of_active? {t : RegionTable} {r : Region} (h : t.active? = some r) :
    ∃ i : Fin 8, t.profiles[i] = .held .active r := by
  unfold RegionTable.active? at h
  split at h
  · cases h
  · next p hp =>
    have test := List.find?_some hp
    obtain ⟨i, hi, e⟩ := List.getElem_of_mem (List.mem_of_find?_eq_some hp)
    cases p with
    | empty => cases h
    | held st x =>
      cases h
      have : st = .active := by simpa [Profile.isIn] using test
      subst this
      exact ⟨⟨i, by simpa using hi⟩, by simpa using e⟩

/-- The ceiling in force lies in 512..1023 (R32). -/
theorem ceilingOf_sound {t : RegionTable} (h : profilesSound t.profiles) :
    512 ≤ ceilingOf t.active? ∧ ceilingOf t.active? ≤ 1023 := by
  cases ha : t.active? with
  | none => exact ⟨by decide, by decide⟩
  | some r =>
    obtain ⟨i, hi⟩ := RegionTable.held_of_active? ha
    exact (h.1 i _ r hi).2

/-! ## The invariant -/

theorem Effect.regionsSound {i : Instr} {s : State} {c : Call} {a : Answer} (h : Effect i s c a) (hs : s.regionsSound) :
    a.after.regionsSound := by
  obtain ⟨sound, selected, contents⟩ := hs
  have put_selected : ∀ k p, s.regions.selection ≠ some k → ∀ j, s.regions.selection = some j →
      ∃ r, (s.regions.put k p).profiles[j] = .held .stored r := fun k p free j hj => by
    rw [RegionTable.put, table_set_get, if_neg (fun e => free (hj.trans (congrArg some e)))]
    exact selected j hj
  have contents := h.contentsSatisfy contents sound sound fun _ _ _ hx => hx
  cases h with
  | reset => exact ⟨profilesSound_reset, nofun, contents⟩
  | gridDefined =>
    refine ⟨?_, ?_, contents⟩
    · simpa [Answer.after, State.defineGrid, State.judgeConverged] using sound
    · simpa [Answer.after, State.defineGrid, State.judgeConverged] using selected
  | regionStored _ k r hr free new =>
    exact ⟨profilesSound_set_stored sound k hr new, put_selected k _ free, contents⟩
  | regionRetired _ k r hk free => exact ⟨profilesSound_set_retired sound hk, put_selected k _ free, contents⟩
  | regionErased _ k free => exact ⟨profilesSound_set_empty sound k, put_selected k _ free, contents⟩
  | regionSelected _ k r hk => exact ⟨sound, fun j hj => by cases hj; exact ⟨r, hk⟩, contents⟩
  | _ => exact ⟨by simpa [Answer.after] using sound, by simpa [Answer.after] using selected, contents⟩

theorem Event.regionsSound {i : Instr} {s u : State} (h : Event i s u) (hs : s.regionsSound) : u.regionsSound := by
  obtain ⟨sound, selected, image⟩ := hs
  have contents := h.contentsSatisfy image fun _ _ _ _ hx => hx
  cases h with
  | poweredOn | powerLost => exact ⟨profilesSound_reset, nofun, contents⟩
  | resetAsserted =>
    refine ⟨?_, ?_, contents⟩ <;> unfold State.assertReset <;> split
    · exact profilesSound_reset
    · exact sound
    · exact nofun
    · exact selected
  | resetReleased =>
    refine ⟨?_, ?_, contents⟩ <;> unfold State.releaseReset <;> split
    · exact sound
    · exact sound
    · exact selected
    · exact selected
  | signalAppeared => exact ⟨sound, selected, image⟩
  | frameStarted | inputFrame =>
    refine ⟨?_, ?_, contents⟩
    · simpa using RegionTable.takeEffect_profilesSound sound
    · simp
  | loadCompleted =>
    have table : profilesSound s.completeLoad.regions.profiles ∧
        ∀ j, s.completeLoad.regions.selection = some j →
          ∃ r, s.completeLoad.regions.profiles[j] = .held .stored r := by
      unfold State.completeLoad
      dsimp only
      split
      · exact ⟨sound, selected⟩
      · exact ⟨sound, selected⟩
      · next x hx => exact ⟨image.complete hx, nofun⟩
    exact ⟨table.1, table.2, contents⟩
  | _ => exact ⟨by simpa using sound, by simpa using selected, contents⟩

/-- A ceiling of 512..1023 (R22, R32). -/
abbrev CorrectionEngine.ceilingSound (e : CorrectionEngine) : Prop := 512 ≤ e.ceiling ∧ e.ceiling ≤ 1023

theorem CorrectionEngine.ceilingSound_largest {e : CorrectionEngine} (h : e.ceiling = 1023) : e.ceilingSound := by
  rw [CorrectionEngine.ceilingSound, h]
  decide

theorem CorrectionEngine.setBypass_ceiling (e : CorrectionEngine) (level : Nat) (on : Bool) :
    (e.setBypass level on).ceiling = e.ceiling := by
  unfold CorrectionEngine.setBypass
  split <;> rfl

theorem Effect.ceilingSound {i : Instr} {s : State} {c : Call} {a : Answer} (h : Effect i s c a)
    (hs : s.engine.ceilingSound) : a.after.engine.ceilingSound := by
  cases h with
  | reset => exact CorrectionEngine.ceilingSound_largest rfl
  | gridDefined => simpa [Answer.after, State.defineGrid, State.judgeConverged] using hs
  | bypassSet => simpa only [Answer.after, CorrectionEngine.ceilingSound, CorrectionEngine.setBypass_ceiling] using hs
  | _ => simpa [Answer.after] using hs

theorem State.frameStart_ceilingSound {s : State} (hr : profilesSound s.regions.profiles) (input : Option InputFrame) :
    (s.frameStart input).engine.ceilingSound := by
  rw [State.frameStart_engine]
  split
  · exact ceilingOf_sound (RegionTable.takeEffect_profilesSound hr)
  · exact CorrectionEngine.ceilingSound_largest rfl

theorem Event.ceilingSound {i : Instr} {s u : State} (h : Event i s u) (hr : profilesSound s.regions.profiles)
    (hs : s.engine.ceilingSound) : u.engine.ceilingSound := by
  cases h with
  | poweredOn | powerLost => exact CorrectionEngine.ceilingSound_largest rfl
  | resetAsserted =>
    unfold State.assertReset
    split
    · exact CorrectionEngine.ceilingSound_largest rfl
    · exact hs
  | resetReleased => unfold State.releaseReset; split <;> exact hs
  | signalAppeared => exact hs
  | frameStarted => exact State.frameStart_ceilingSound hr _
  | inputFrame => rw [State.inputFrame_engine]; exact State.frameStart_ceilingSound hr _
  | _ => simpa using hs

/-- Settles O57: a stored code is new, a retired or selected profile keeps its fields, and the latched ceiling is that of
the ACTIVE profile. -/
theorem regionsStaySoundAndCeilingsInRange : Obligations.RegionsStaySoundAndCeilingsInRange := by
  intro s t hr hc h
  have sound : t.regionsSound ∧ t.engine.ceilingSound := by
    refine step_keeps (good := fun u => u.regionsSound ∧ u.engine.ceilingSound) h ⟨hr, hc.1⟩ (fun _ _ hu => hu) fun i u v hd hu => ?_
    refine hd.keeps (good := fun u => u.regionsSound ∧ u.engine.ceilingSound) hu (fun w p q hw => ?_)
      (fun _ _ _ he => ⟨he.regionsSound hu.1, he.ceilingSound hu.2⟩)
      (fun _ he => ⟨he.regionsSound hu.1, he.ceilingSound hu.1.1 hu.2⟩)
    exact ⟨by simpa [State.regionsSound] using hw.1, by simpa using hw.2⟩
  obtain ⟨⟨profiles, selected, contents⟩, ceiling⟩ := sound
  exact ⟨⟨profiles, selected, contents⟩, ceiling, fun i st r hi => (profiles.1 i st r hi).2,
    fun x hx i st r hi => ((contents.1 x hx).1 i st r hi).2, fun x hx i st r hi => ((contents.2 x hx).1 i st r hi).2⟩

end Sys2Proof.Machine
end

section
/-! PROOFS. Every step keeps the slots of the Credential Table and of the image sound, the loading context with its slot,
and a revocation write with a REVOKED one (O58). -/

namespace Sys2Proof.Machine

open Sys2Proof

/-! ## Slots -/

/-- An entry marked REVOKED has a class and a length the class allows, whatever is drawn (R125, R126, log 16). -/
theorem Slot.markRevoked_sound (draw : Nat) {x : Slot} (h : x.sound) : (x.markRevoked draw).sound := by
  cases x with
  | empty =>
    have length := (Config.freeSlotLength draw).isLt
    refine ⟨⟨by omega, by omega, by omega⟩, fun service => ?_⟩
    split at service <;> cases service
  | loading | loaded | bound => exact h.1
  | revoked => exact h

theorem Slot.markRevoked_service {draw : Nat} {x : Slot} (h : (x.markRevoked draw).class? = some .service) :
    x.class? = some .service := by
  cases x with
  | empty =>
    simp only [Slot.markRevoked, Slot.class?, Option.some.injEq] at h
    split at h <;> cases h
  | _ => exact h

theorem Slot.markRevoked_isLoading (draw : Nat) (x : Slot) : (x.markRevoked draw).isLoading = false := by
  cases x <;> rfl

theorem Slot.saved_class {x : Slot} {class_ : KeyClass} (h : x.saved.class? = some class_) : x.class? = some class_ := by
  cases x with
  | loading => cases h
  | _ => exact h

theorem Slot.isLoading_of_isRevoked {x : Slot} (h : x.isRevoked = true) : x.isLoading = false := by
  cases x <;> first | rfl | cases h

/-- A LOADED or BOUND slot is as sound once REVOKED (R139). -/
theorem Slot.revoked_sound {x : Slot} {class_ : KeyClass} {n : Nat} {check : CheckValue} (h : x.sound)
    (hx : x.revocable? = some (class_, n, check)) : (Slot.revoked class_ n check).sound := by
  cases x with
  | loaded | bound => cases hx; exact h.1
  | _ => cases hx

theorem Slot.isLoading_of_revocable {x : Slot} {v : KeyClass × Nat × CheckValue} (h : x.revocable? = some v) :
    x.isLoading = false := by
  cases x <;> first | rfl | cases h

/-! ## Sixteen slots -/

/-- Slots sound one by one, SERVICE only where another sound table has it. -/
theorem slotsSound_of_service {v w : Vector Slot 16} (h : slotsSound v) (sound : ∀ i : Fin 16, w[i].sound)
    (service : ∀ i : Fin 16, w[i].class? = some .service → v[i].class? = some .service) : slotsSound w :=
  ⟨sound, fun i j hi hj => h.2 i j (service i hi) (service j hj)⟩

/-- A slot is replaced by a sound one that is of class SERVICE only where no other slot is. -/
theorem slotsSound_set {v : Vector Slot 16} (h : slotsSound v) {k : Fin 16} {x : Slot} (hx : x.sound)
    (service : x.class? = some .service → ∀ j : Fin 16, j ≠ k → v[j].class? ≠ some .service) :
    slotsSound (v.set k x) := by
  obtain ⟨sound, one⟩ := h
  refine ⟨fun i => ?_, fun i j hi hj => ?_⟩
  · rw [table_set_get]
    split
    · exact hx
    · exact sound i
  · rw [table_set_get] at hi hj
    split at hi <;> split at hj
    · exact ‹i = k›.trans ‹j = k›.symm
    · exact absurd hj (service hi j ‹_›)
    · exact absurd hi (service hj i ‹_›)
    · exact one i j hi hj

/-- A slot is replaced by a sound one of class SERVICE only if it was of class SERVICE itself. -/
theorem slotsSound_set_same {v : Vector Slot 16} (h : slotsSound v) {k : Fin 16} {x : Slot} (hx : x.sound)
    (service : x.class? = some .service → v[k].class? = some .service) : slotsSound (v.set k x) :=
  slotsSound_set h hx fun hs j hj e => hj (h.2 j k e (service hs))

theorem slotsSound_mapTable {v : Vector Slot 16} {f : Slot → Slot} (h : slotsSound v) (sound : ∀ x, x.sound → (f x).sound)
    (service : ∀ x, (f x).class? = some .service → x.class? = some .service) : slotsSound (mapTable f v) := by
  refine slotsSound_of_service h (fun i => ?_) fun i hi => ?_
  · rw [mapTable_get]; exact sound _ (h.1 i)
  · rw [mapTable_get] at hi; exact service _ hi

theorem slotsSound_saved {v : Vector Slot 16} (h : slotsSound v) : slotsSound (mapTable Slot.saved v) :=
  slotsSound_mapTable h (fun _ => Slot.saved_sound) (fun _ => Slot.saved_class)

theorem slotsSound_bindAll {t : CredentialTable} (h : slotsSound t.slots) : slotsSound t.bindAll.slots :=
  slotsSound_mapTable h (fun _ => Slot.bind_sound) fun x hx => by rwa [Slot.bind_class] at hx

/-! ## The Credential Table -/

/-- The slots, the one LOADING slot of the loading context, and its timer. -/
structure CredentialTable.sound (t : CredentialTable) : Prop where
  slots : slotsSound t.slots
  loading : ∀ i : Fin 16, t.slots[i].isLoading = true ↔ ∃ l, t.loading = some l ∧ l.slot = i
  gap : t.gapSound

section Tables

variable {t : CredentialTable}

/-- Every slot but that of the loading context is not LOADING. -/
theorem CredentialTable.sound.not_loading (h : t.sound) {k : Fin 16} (hk : t.slots[k].isLoading = true) {i : Fin 16}
    (hi : i ≠ k) : t.slots[i].isLoading = false := by
  refine Bool.eq_false_iff.mpr fun e => hi ?_
  obtain ⟨l, hl, rfl⟩ := (h.loading i).mp e
  obtain ⟨l', hl', rfl⟩ := (h.loading k).mp hk
  rw [hl] at hl'
  cases hl'
  rfl

theorem CredentialTable.sound.idle (h : t.sound) (hl : t.loading = none) (i : Fin 16) : t.slots[i].isLoading = false := by
  refine Bool.eq_false_iff.mpr fun e => ?_
  obtain ⟨l, hl', -⟩ := (h.loading i).mp e
  rw [hl] at hl'
  cases hl'

/-- A table with an idle loading context and no LOADING slot. -/
theorem CredentialTable.sound_idle (slots : slotsSound t.slots) (loading : t.loading = none)
    (none : ∀ i : Fin 16, t.slots[i].isLoading = false) : t.sound :=
  ⟨slots, fun i => ⟨fun h => (nomatch (none i).symm.trans h), fun ⟨_, hl, _⟩ => nomatch loading.symm.trans hl⟩,
    CredentialTable.gapSound_of_none loading⟩

/-- A slot is LOADING under a loading context that names it, and no other is. -/
theorem CredentialTable.sound_busy {k : Fin 16} {x : Slot} (slots : slotsSound (t.slots.set k x)) (hx : x.isLoading = true)
    (others : ∀ i : Fin 16, i ≠ k → t.slots[i].isLoading = false) :
    CredentialTable.sound { slots := t.slots.set k x, loading := some { slot := k, gap := 0 } } := by
  refine ⟨slots, fun i => ?_, fun l hl => by cases hl; exact Nat.zero_lt_succ 1999⟩
  dsimp only
  rw [table_set_get]
  split
  · next e => exact ⟨fun _ => ⟨_, rfl, e.symm⟩, fun _ => hx⟩
  · next ne =>
    rw [others i ne]
    exact ⟨nofun, fun ⟨_, hl, e⟩ => by cases hl; exact absurd e.symm ne⟩

theorem CredentialTable.sound.begun (h : t.sound) {k : Fin 16} {class_ : KeyClass} {n : Nat} (length : lengthSound class_ n)
    (idle : t.loading = none) (service : class_ = .service → t.serviceElsewhere k = false) : (t.begin k class_ n).sound := by
  refine CredentialTable.sound_busy (slotsSound_set h.slots ⟨length, Nat.zero_le _⟩ fun hs => ?_) rfl
    fun i _ => h.idle idle i
  exact CredentialTable.serviceElsewhere_eq_false.mp (service (Option.some.inj hs))

theorem CredentialTable.sound.joined (h : t.sound) {k : Fin 16} {class_ : KeyClass} {n : Nat} {received data : List Byte}
    (hk : t.slots[k] = .loading class_ n received) (fits : received.length + data.length ≤ n) :
    CredentialTable.sound
      { slots := t.slots.set k (.loading class_ n (received ++ data)), loading := some { slot := k, gap := 0 } } := by
  have sound : (Slot.loading class_ n received).sound := hk ▸ h.slots.1 k
  refine CredentialTable.sound_busy (slotsSound_set_same h.slots ⟨sound.1, by simpa using fits⟩ fun hs => ?_) rfl
    fun i hi => h.not_loading (by rw [hk]; rfl) hi
  rw [hk]
  exact hs

/-- The load of a slot ends: the loading context is idle and the slot holds something that is not LOADING. -/
theorem CredentialTable.sound.finished (h : t.sound) {k : Fin 16} (hk : t.slots[k].isLoading = true) {x : Slot} (hx : x.sound)
    (hl : x.isLoading = false) (service : x.class? = some .service → t.slots[k].class? = some .service) :
    (t.finish k x).sound := by
  refine CredentialTable.sound_idle (slotsSound_set_same h.slots hx service) rfl fun i => ?_
  rw [CredentialTable.finish, table_set_get]
  split
  · exact hl
  · next hi => exact h.not_loading hk hi

/-- A slot that is not LOADING is replaced by another such. -/
theorem CredentialTable.sound.replaced (h : t.sound) {k : Fin 16} (hk : t.slots[k].isLoading = false) {x : Slot} (hx : x.sound)
    (hl : x.isLoading = false) (service : x.class? = some .service → t.slots[k].class? = some .service) :
    (t.put k x).sound := by
  refine ⟨slotsSound_set_same h.slots hx service, fun i => ?_, h.gap⟩
  rw [CredentialTable.put, table_set_get]
  split
  · next e => subst e; rw [hl, ← hk]; exact h.loading i
  · exact h.loading i

theorem CredentialTable.sound.bound (h : t.sound) : t.bindAll.sound :=
  ⟨slotsSound_bindAll h.slots, fun i => by rw [CredentialTable.bindAll_slot, Slot.bind_isLoading]; exact h.loading i, h.gap⟩

theorem CredentialTable.sound.unbound (h : t.sound) (list : List (Fin 16)) : (t.unbindAll list).sound := by
  refine ⟨slotsSound_of_service h.slots (fun i => ?_) fun i hi => ?_, fun i => ?_, h.gap⟩
  · rw [CredentialTable.unbindAll_slot]
    split
    · exact Slot.unbind_sound (h.slots.1 i)
    · exact h.slots.1 i
  · rw [CredentialTable.unbindAll_slot] at hi
    split at hi
    · rwa [Slot.unbind_class] at hi
    · exact hi
  · rw [CredentialTable.unbindAll_slot]
    split
    · rw [Slot.unbind_isLoading]; exact h.loading i
    · exact h.loading i

theorem CredentialTable.sound_reset : State.reset.creds.sound := by
  have empty : ∀ i : Fin 16, State.reset.creds.slots[i] = .empty := by decide
  refine CredentialTable.sound_idle ⟨fun i => ?_, fun i j hi => ?_⟩ rfl fun i => ?_
  · rw [empty i]; trivial
  · rw [empty i] at hi; cases hi
  · rw [empty i]; rfl

theorem CredentialTable.sound_loaded {x : ImageContents} (h : slotsSound x.slots) :
    CredentialTable.sound { slots := mapTable Slot.saved x.slots, loading := none } :=
  CredentialTable.sound_idle (slotsSound_saved h) rfl fun i => by
    dsimp only
    rw [mapTable_get, Slot.saved_isLoading]

/-- The slot of an abandoned load was LOADING (R133). -/
theorem CredentialTable.sound.abandoned (h : t.sound) {l : LoadingContext} (hl : t.loading = some l) :
    (t.finish l.slot .empty).sound :=
  h.finished ((h.loading l.slot).mpr ⟨l, hl, rfl⟩) trivial rfl nofun

end Tables

/-- A frame start keeps the table sound: the gap timer adds the step, or the load is abandoned (R133). -/
theorem State.addGap_credsSound {s : State} (h : s.creds.sound) (step : Nat) : (s.addGap step).creds.sound := by
  have gap := State.addGap_sound h.gap step
  rw [State.addGap_creds] at gap ⊢
  split
  · exact h
  · next l hl =>
    rw [hl] at gap
    dsimp only at gap
    split at gap
    · rw [if_pos ‹_›]
      exact h.abandoned hl
    · rw [if_neg ‹_›]
      refine ⟨h.slots, fun i => (h.loading i).trans ?_, gap⟩
      simp [hl]

/-! ## The invariant -/

/-- The slot a revocation write runs for is REVOKED and not of class SERVICE (R140). -/
def State.revokingSound (s : State) : Prop :=
  ∀ p i, s.store.write = .revoking p i → s.creds.slots[i].isRevoked = true ∧ s.creds.slots[i].class? ≠ some .service

/-- The slots of an image: sound, and none LOADING (R156). -/
def ImageContents.slotsKept (x : ImageContents) : Prop := slotsSound x.slots ∧ ∀ i : Fin 16, x.slots[i].isLoading = false

theorem State.credentialsSound_iff {s : State} :
    s.credentialsSound ↔ s.creds.sound ∧ s.revokingSound ∧ s.store.contentsSatisfy ImageContents.slotsKept :=
  ⟨fun ⟨slots, loading, gap, revoking, contents⟩ => ⟨⟨slots, loading, gap⟩, revoking, contents⟩,
    fun ⟨⟨slots, loading, gap⟩, revoking, contents⟩ => ⟨slots, loading, gap, revoking, contents⟩⟩

theorem State.revokingSound_of_idle {s : State} (h : s.store.write = .idle) : s.revokingSound := fun p i e => by
  rw [h] at e; cases e

theorem State.revokingSound_of_saving {s : State} {x : ImageContents} (h : s.store.write = .saving x) : s.revokingSound :=
  fun p i e => by rw [h] at e; cases e

theorem State.revokingSound_congr {s u : State} (h : s.revokingSound) (write : u.store.write = s.store.write)
    (creds : u.creds = s.creds) : u.revokingSound := by
  unfold State.revokingSound
  rw [write, creds]
  exact h

/-- A LOADING slot that is emptied is not the one a revocation write runs for. -/
theorem State.revokingSound_abandon {s u : State} (h : s.revokingSound) (sound : s.creds.sound) {l : LoadingContext}
    (hl : s.creds.loading = some l) (write : u.store.write = s.store.write)
    (creds : u.creds = s.creds.finish l.slot .empty) : u.revokingSound := by
  intro p i e
  obtain ⟨revoked, service⟩ := h p i (write.symm.trans e)
  have ne : i ≠ l.slot := by
    rintro rfl
    have := (sound.loading l.slot).mpr ⟨l, hl, rfl⟩
    rw [Slot.isLoading_of_isRevoked revoked] at this
    cases this
  rw [creds, CredentialTable.finish, table_set_get, if_neg ne]
  exact ⟨revoked, service⟩

theorem ImageContents.slotsKept_saved {x : ImageContents} {v : Vector Slot 16} (h : slotsSound v)
    (hx : x.slots = mapTable Slot.saved v) : x.slotsKept := by
  unfold ImageContents.slotsKept
  rw [hx]
  exact ⟨slotsSound_saved h, fun i => by rw [mapTable_get, Slot.saved_isLoading]⟩

theorem ImageContents.slotsKept_put {x : ImageContents} (h : x.slotsKept) {k : Fin 16} {y : Slot} (hy : y.sound)
    (hl : y.isLoading = false) (service : y.class? = some .service → x.slots[k].class? = some .service) :
    (x.putSlot k y).slotsKept := by
  refine ⟨slotsSound_set_same h.1 hy service, fun i => ?_⟩
  rw [ImageContents.putSlot, table_set_get]
  split
  · exact hl
  · exact h.2 i

theorem Effect.credentialsSound {i : Instr} {s : State} {c : Call} {a : Answer} (h : Effect i s c a)
    (hs : s.credentialsSound) : a.after.credentialsSound := by
  rw [State.credentialsSound_iff] at hs ⊢
  obtain ⟨table, revoking, image⟩ := hs
  have contents := h.contentsSatisfy image (ImageContents.slotsKept_saved table.slots rfl)
    (ImageContents.slotsKept_saved table.bound.slots rfl) fun x k draw hx =>
      ImageContents.slotsKept_put hx (Slot.markRevoked_sound draw (hx.1.1 k)) (Slot.markRevoked_isLoading ..) Slot.markRevoked_service
  cases h with
  | reset => exact ⟨CredentialTable.sound_reset, State.revokingSound_of_idle rfl, contents⟩
  | gridDefined =>
    refine ⟨?_, State.revokingSound_congr revoking ?_ ?_, contents⟩
    · simpa [Answer.after, State.defineGrid, State.judgeConverged] using table
    · simp [Answer.after, State.defineGrid, State.judgeConverged]
    · simp [Answer.after, State.defineGrid, State.judgeConverged]
  | loadBegun _ k class_ declared length idle write service =>
    exact ⟨table.begun length idle service, State.revokingSound_of_idle write, contents⟩
  | chunkJoined _ k class_ declared received data hk write fits =>
    exact ⟨table.joined hk fits, State.revokingSound_of_idle write, contents⟩
  | loadDropped _ _ k hk write =>
    exact ⟨table.finished hk trivial rfl nofun, State.revokingSound_of_idle write, contents⟩
  | loadEnded _ k class_ declared data hk write whole =>
    have sound : (Slot.loading class_ declared data).sound := hk ▸ table.slots.1 k
    exact ⟨table.finished (by rw [hk]; rfl) ⟨sound.1, whole, rfl⟩ rfl fun e => by rw [hk]; exact e,
      State.revokingSound_of_idle write, contents⟩
  | revoked _ k class_ declared check hk service write =>
    exact ⟨table.replaced (Slot.isLoading_of_revocable hk) (Slot.revoked_sound (table.slots.1 k) hk) rfl
      fun e => absurd (Option.some.inj e) service, State.revokingSound_of_idle write, contents⟩
  | revocationBegun k class_ declared check x hk service =>
    refine ⟨table.replaced (Slot.isLoading_of_revocable hk) (Slot.revoked_sound (table.slots.1 k) hk) rfl
      fun e => absurd (Option.some.inj e) service, fun p j e => ?_, contents⟩
    cases e
    simp only [Answer.after, State.beginRevocation_creds, State.setDirty, CredentialTable.put, table_set_get, if_pos]
    exact ⟨rfl, fun e => service (Option.some.inj e)⟩
  | slotErased _ k hk write =>
    exact ⟨table.replaced hk trivial rfl nofun, State.revokingSound_of_idle write, contents⟩
  | saveBegun => exact ⟨table, State.revokingSound_of_saving rfl, contents⟩
  | shipped =>
    refine ⟨?_, ?_, contents⟩
    · rw [Answer.after, State.takeShip_creds]; exact table.bound
    · exact State.revokingSound_of_saving (by rw [Answer.after, State.takeShip_store])
  | _ =>
    refine ⟨?_, State.revokingSound_congr revoking ?_ ?_, contents⟩
    · simpa [Answer.after] using table
    · simp [Answer.after]
    · simp [Answer.after]

theorem State.frameStart_credentials {s : State} (table : s.creds.sound) (revoking : s.revokingSound)
    (input : Option InputFrame) : (s.frameStart input).creds.sound ∧ (s.frameStart input).revokingSound := by
  rw [State.frameStart_creds]
  refine ⟨State.addGap_credsSound table _, ?_⟩
  have write : (s.frameStart input).store.write = s.store.write := by rw [State.frameStart_store]
  have creds := s.frameStart_creds input
  rw [State.addGap_creds] at creds
  split at creds
  · exact State.revokingSound_congr revoking write creds
  · next l hl =>
    split at creds
    · exact State.revokingSound_abandon revoking table hl write creds
    · unfold State.revokingSound
      rw [write, creds]
      exact revoking

theorem Event.credentialsSound {i : Instr} {s u : State} (h : Event i s u) (start : s.startSound)
    (hs : s.credentialsSound) : u.credentialsSound := by
  rw [State.credentialsSound_iff] at hs ⊢
  obtain ⟨table, revoking, image⟩ := hs
  have contents := h.contentsSatisfy image fun x p k write hx => by
    obtain ⟨-, service⟩ := revoking p k write
    exact ImageContents.slotsKept_put hx (Slot.saved_sound (table.slots.1 k)) (Slot.saved_isLoading _)
      fun e => absurd (Slot.saved_class e) service
  cases h with
  | poweredOn | powerLost => exact ⟨CredentialTable.sound_reset, State.revokingSound_of_idle rfl, contents⟩
  | resetAsserted =>
    refine ⟨?_, ?_, contents⟩ <;> unfold State.assertReset <;> split
    · exact CredentialTable.sound_reset
    · exact table
    · exact State.revokingSound_of_idle rfl
    · exact revoking
  | resetReleased =>
    refine ⟨?_, ?_, contents⟩ <;> unfold State.releaseReset <;> split
    · exact table
    · exact table
    · exact revoking
    · exact revoking
  | signalAppeared => exact ⟨table, revoking, image⟩
  | frameStarted =>
    obtain ⟨table', revoking'⟩ := State.frameStart_credentials table revoking none
    exact ⟨table', revoking', contents⟩
  | inputFrame _ _ f =>
    obtain ⟨table', revoking'⟩ := State.frameStart_credentials table revoking (some f)
    exact ⟨by simpa using table', State.revokingSound_congr revoking' (by simp) (by simp), contents⟩
  | loadAbandoned l hl =>
    exact ⟨table.abandoned hl, State.revokingSound_abandon revoking table hl rfl rfl, contents⟩
  | saveFinished result x =>
    refine ⟨?_, State.revokingSound_of_idle ?_, contents⟩
    · rw [State.finishSave_creds]
      split
      · exact table.unbound _
      · exact table
    · rw [State.finishSave_store]; cases result <;> rfl
  | revocationFinished result p k =>
    refine ⟨by simpa using table, State.revokingSound_of_idle ?_, contents⟩
    rw [State.finishRevocation_store]; cases result <;> rfl
  | loadCompleted _ _ loads =>
    have rest := State.atRest_of_starting start (by rw [loads]; exact nofun)
    refine ⟨?_, State.revokingSound_of_idle (by simpa using rest.1), contents⟩
    unfold State.completeLoad
    dsimp only
    split
    · exact table
    · exact table
    · next x hx => exact CredentialTable.sound_loaded (image.complete hx).1
  | _ =>
    refine ⟨by simpa using table, State.revokingSound_congr revoking ?_ ?_, contents⟩
    · simp
    · simp

/-- Settles O58: a request changes a slot only while no write runs, a load that ends empties its own slot, and what a save or
a revocation takes is a sound slot. -/
theorem credentialsStaySound : Obligations.CredentialsStaySound := by
  intro s t hc hst h
  refine step_keeps (good := fun u => u.credentialsSound ∧ u.startSound) h ⟨hc, hst⟩ (fun _ _ hu => hu) fun i u v hd hu => ?_
  refine hd.keeps (good := fun u => u.credentialsSound ∧ u.startSound) hu (fun w p q hw => ?_) (fun c a hr he => ⟨he.credentialsSound hu.1, ?_⟩)
    (fun _ he => ⟨he.credentialsSound hu.2 hu.1, he.startSound hu.2⟩)
  · exact ⟨by simpa [State.credentialsSound] using hw.1, by simpa [State.startSound, State.deaf] using hw.2⟩
  · rcases hr with ⟨ready, deaf⟩ | same
    · exact he.startSound ready deaf
    · rw [same]; exact hu.2

end Sys2Proof.Machine
end

section
/-! PROOFS. Every step keeps a response on a READY port and a PENDING port for each reply still to come (O59). -/

namespace Sys2Proof.Machine

open Sys2Proof

/-! ## What is owed -/

/-- An ADJUST entry waits. -/
def State.adjustWaits (s : State) : Prop := ∃ e ∈ s.queue.entries, e.isAdjust = true

theorem State.adjustWaits_iff {s : State} : s.adjustWaits ↔ 0 < s.queue.entries.countP Entry.isAdjust := by
  rw [List.countP_pos_iff]
  rfl

/-- A state owes no reply that another does not: no more ADJUST entries wait, no Ship runs but the other's with its write,
and no revocation write but the other's. -/
structure State.owesNoMore (s u : State) : Prop where
  entries : u.queue.entries.countP Entry.isAdjust ≤ s.queue.entries.countP Entry.isAdjust
  ship : u.modes.shipping = true → s.modes.shipping = true ∧ u.store.write = s.store.write
  revoking : ∀ p i, u.store.write = .revoking p i → s.store.write = .revoking p i

theorem State.owesNoMore_of_eq {s u : State} (entries : u.queue.entries = s.queue.entries)
    (ship : u.modes.shipping = s.modes.shipping) (write : u.store.write = s.store.write) : s.owesNoMore u :=
  ⟨by rw [entries], fun h => ⟨ship ▸ h, write⟩, fun _ _ h => write ▸ h⟩

/-- A state that owes no more, on sound ports that are PENDING where they were. -/
theorem State.repliesSound_of_owesNoMore {s u : State} (hs : s.repliesSound) (owes : s.owesNoMore u)
    (line : u.linePort.sound) (set : u.setPort.sound)
    (linePending : s.linePort.phase = .pending → u.linePort.phase = .pending)
    (setPending : s.setPort.phase = .pending → u.setPort.phase = .pending) : u.repliesSound := by
  obtain ⟨-, -, one, adjust, ship, revoking⟩ := hs
  refine ⟨line, set, owes.entries.trans one, fun h => ?_, fun h => ?_, fun p i h => ?_⟩
  · have waits : s.adjustWaits := State.adjustWaits_iff.mpr ((State.adjustWaits_iff.mp h).trans_le owes.entries)
    obtain ⟨pending, clear, free⟩ := adjust waits
    refine ⟨linePending pending, Bool.eq_false_iff.mpr fun h => ?_, fun i h => free i (owes.revoking _ _ h)⟩
    rw [(owes.ship h).1] at clear
    cases clear
  · obtain ⟨shipping, write⟩ := owes.ship h
    exact ⟨(State.saveRuns_congr write).trans (ship shipping).1, linePending (ship shipping).2⟩
  · have := revoking p i (owes.revoking p i h)
    cases p
    · exact linePending this
    · exact setPending this

/-- A state that owes no more, on the same ports. -/
theorem State.repliesSound_of_ports {s u : State} (hs : s.repliesSound) (owes : s.owesNoMore u)
    (line : u.linePort = s.linePort) (set : u.setPort = s.setPort) : u.repliesSound :=
  State.repliesSound_of_owesNoMore hs owes (line ▸ hs.1) (set ▸ hs.2.1) (fun h => line ▸ h) (fun h => set ▸ h)

/-- A state that owes no more, with one port replaced that was not PENDING or stays it. -/
theorem State.repliesSound_withPort {s u : State} (hs : s.repliesSound) (owes : s.owesNoMore u)
    (line : u.linePort = s.linePort) (set : u.setPort = s.setPort) {p : PortId} {q : Port} (sound : q.sound)
    (pending : (s.port p).phase = .pending → q.phase = .pending) : (u.withPort p q).repliesSound := by
  have owes' : s.owesNoMore (u.withPort p q) := by
    obtain ⟨entries, ship, revoking⟩ := owes
    exact ⟨by simpa using entries, by simpa using ship, by simpa using revoking⟩
  cases p with
  | line => exact State.repliesSound_of_owesNoMore hs owes' sound (set ▸ hs.2.1) pending (fun h => set ▸ h)
  | set => exact State.repliesSound_of_owesNoMore hs owes' (line ▸ hs.1) sound (fun h => line ▸ h) pending

theorem Port.sound_of_same {q r : Port} (h : q.sound) (phase : r.phase = q.phase) (slot : r.slot = q.slot) : r.sound := by
  rw [Port.sound, phase, slot]
  exact h

theorem Port.sound_ready {q : Port} {r : Response} (phase : q.phase = .ready) (slot : q.slot = some r) : q.sound := by
  rw [Port.sound, phase, slot]
  exact ⟨fun _ => rfl, fun _ => rfl⟩

theorem Port.sound_empty {q : Port} (phase : q.phase ≠ .ready) (slot : q.slot = none) : q.sound := by
  rw [Port.sound, slot]
  exact ⟨fun h => absurd h phase, nofun⟩

theorem State.repliesSound.port {s : State} (h : s.repliesSound) (p : PortId) : (s.port p).sound := by
  cases p
  · exact h.1
  · exact h.2.1

/-- A request answered at once on a port that is not PENDING. -/
theorem State.repliesSound_answered {s u : State} (hs : s.repliesSound) (owes : s.owesNoMore u)
    (line : u.linePort = s.linePort) (set : u.setPort = s.setPort) {p : PortId} (hp : s.listens p) (tag : Byte)
    (status : Status) (fields : List Byte) : (u.answered p tag status fields).repliesSound :=
  State.repliesSound_withPort hs owes line set (Port.sound_ready rfl rfl) fun h => absurd h hp.2

/-- A part at rest on IDLE ports owes nothing. -/
theorem State.repliesSound_of_reset {s : State} (line : s.linePort = State.reset.linePort)
    (set : s.setPort = State.reset.setPort) (entries : s.queue.entries = []) (ship : s.modes.shipping = false)
    (write : s.store.write = .idle) : s.repliesSound := by
  refine ⟨?_, ?_, ?_, ?_, ?_, ?_⟩
  · rw [line]; exact Port.sound_empty nofun rfl
  · rw [set]; exact Port.sound_empty nofun rfl
  · rw [entries]; exact Nat.zero_le _
  · rw [entries]; rintro ⟨_, h, -⟩; cases h
  · rw [ship]; exact nofun
  · rw [write]; exact nofun

/-! ## Requests -/

theorem State.place_countP (s : State) {es : List Entry} (h : ∀ e ∈ es, e.isAdjust = false) :
    (s.place es).queue.entries.countP Entry.isAdjust = s.queue.entries.countP Entry.isAdjust := by
  have none : es.countP Entry.isAdjust = 0 := List.countP_eq_zero.mpr fun e he => by rw [h e he]; exact nofun
  exact (List.countP_append ..).trans (by rw [none]; rfl)

/-- A port that listens waits for no Adjust Knot. -/
theorem State.not_adjustWaits {s : State} (hs : s.repliesSound) (hp : s.listens .line) : ¬ s.adjustWaits :=
  fun h => hp.2 (hs.2.2.2.1 h).1

/-- What a block answers at once owes no more than before, and leaves the ports. -/
theorem Effect.owesNoMore {i : Instr} {s : State} {c : Call} {status : Status} {payload : List Byte} {u : State}
    (h : Effect i s c (.reply status payload u)) :
    s.owesNoMore u ∧ u.linePort = s.linePort ∧ u.setPort = s.setPort := by
  cases h with
  | gridDefined =>
    refine ⟨⟨?_, ?_, ?_⟩, ?_, ?_⟩ <;> simp [State.defineGrid, State.judgeConverged]
  | placed _ es _ _ _ sound =>
    exact ⟨⟨(s.place_countP fun e he => (sound e he).2.2).le, fun h => ⟨h, rfl⟩, fun _ _ h => h⟩, rfl, rfl⟩
  | saveBegun _ _ ship => exact ⟨⟨le_rfl, fun h => absurd (ship.symm.trans h) nofun, nofun⟩, rfl, rfl⟩
  | _ => refine ⟨State.owesNoMore_of_eq ?_ ?_ ?_, ?_, ?_⟩ <;> simp

/-- A request whose reply comes later leaves its port PENDING and owes that reply (R57, R139, R148). -/
theorem Effect.repliesSound_wait {i : Instr} {s : State} {c : Call} {u : State} (h : Effect i s c (.wait u))
    (hs : s.repliesSound) (hp : s.listens c.port) (level : ∃ b, c.level = s.effectiveLevel c.port b) :
    (u.awaiting c.port c.tag).repliesSound := by
  obtain ⟨b, level⟩ := level
  have hs' := hs
  obtain ⟨line, set, one, adjust, ship, revoking⟩ := hs
  have waiting : ∀ q : Port, ({ q with phase := .pending, slot := none, tag := c.tag, driven := [] } : Port).sound :=
    fun q => Port.sound_empty nofun rfl
  cases h with
  | adjusted e d grid admitted clear room within isAdjust =>
    have line_port : c.port = .line := (admits_one (level.ge.trans admitted)).2
    rw [line_port] at hp ⊢
    have free : s.queue.entries.countP Entry.isAdjust = 0 :=
      Nat.eq_zero_of_not_pos fun h => State.not_adjustWaits hs' hp (State.adjustWaits_iff.mpr h)
    refine ⟨waiting _, set, ?_, fun _ => ⟨rfl, clear, fun i h => hp.2 (revoking .line i h)⟩, fun h => ?_, fun p i h => ?_⟩
    · have count : (s.queue.entries ++ [e]).countP Entry.isAdjust = 1 := by
        rw [List.countP_append, free, List.countP_singleton, isAdjust]; rfl
      exact count.le
    · exact absurd (clear.symm.trans h) nofun
    · cases p
      · rfl
      · exact revoking .set i h
  | revocationBegun k _ _ _ x _ _ write clear =>
    refine ⟨?_, ?_, by simpa [State.setDirty] using one, fun h => ?_, fun h => ?_, fun p i h => ?_⟩
    · cases c.port
      · exact waiting _
      · exact line
    · cases c.port
      · exact set
      · exact waiting _
    · have waits : s.adjustWaits := by simpa [State.adjustWaits, State.setDirty] using h
      have other : c.port = .set := by
        cases hc : c.port
        · exact absurd waits (State.not_adjustWaits hs' (hc ▸ hp))
        · rfl
      rw [other]
      exact ⟨(adjust waits).1, clear, fun i h => by cases h⟩
    · rw [State.awaiting_modes] at h
      exact absurd (clear.symm.trans h) nofun
    · rw [State.awaiting_store] at h
      cases h
      rw [State.port_awaiting]
  | shipped admitted =>
    have line_port : c.port = .line := (admits_one (level.ge.trans admitted)).2
    rw [line_port] at hp ⊢
    refine ⟨waiting _, s.takeShip_setPort.symm ▸ set, by simpa using one, fun h => ?_, fun _ => ⟨?_, rfl⟩,
      fun p i h => ?_⟩
    · exact absurd (by simpa [State.adjustWaits] using h) (State.not_adjustWaits hs' hp)
    · exact State.saveRuns_of_saving (by rw [State.awaiting_store, State.takeShip_store])
    · rw [State.awaiting_store, State.takeShip_store] at h
      cases h

/-! ## Events -/

/-- An application makes a deferred reply only where an ADJUST entry waits (R57). -/
theorem applyEntries_reply {g : GridStore} {frame : FrameNumber} {entries : List Entry}
    (h : (applyEntries g frame entries).reply ≠ none) : ∃ e ∈ entries, e.isAdjust = true := by
  revert h
  refine applyEntries_keeps (fun a => a.reply ≠ none → ∃ e ∈ entries, e.isAdjust = true) g frame entries
    (fun h => absurd rfl h) fun d a e _ he ih h => ?_
  cases hadj : e.isAdjust with
  | true => exact ⟨e, he, hadj⟩
  | false => exact ih (by rwa [Application.apply_reply d frame a e hadj] at h)

theorem State.frameStart_repliesSound {s : State} (hs : s.repliesSound) (input : Option InputFrame) :
    (s.frameStart input).repliesSound := by
  have owes : s.owesNoMore (s.frameStart input) := by
    refine ⟨?_, fun h => ⟨by simpa using h, by rw [State.frameStart_store]⟩, fun p i h => ?_⟩
    · rw [State.frameStart_queue]
      dsimp only
      split
      · exact Nat.zero_le _
      · exact le_rfl
    · rw [State.frameStart_store] at h; exact h
  have port := s.frameStart_linePort input
  split at port
  case isFalse => exact State.repliesSound_of_ports hs owes port (by simp)
  case isTrue applies =>
    split at port
    · exact State.repliesSound_of_ports hs owes port (by simp)
    · next status fields reply =>
      obtain ⟨-, clear, free⟩ := hs.2.2.2.1 (applyEntries_reply (by rw [State.applied] at reply; rw [reply]; exact nofun))
      refine ⟨?_, by simpa using hs.2.1, owes.entries.trans hs.2.2.1, fun h => ?_, fun h => ?_, fun p i h => ?_⟩
      · rw [port]; exact Port.sound_ready rfl rfl
      · rw [State.frameStart_queue, applies] at h
        obtain ⟨_, h, -⟩ := h
        cases h
      · rw [(owes.ship h).1] at clear; cases clear
      · cases p
        · exact absurd (owes.revoking _ _ h) (free i)
        · simpa using hs.2.2.2.2.2 .set i (owes.revoking _ _ h)

theorem State.finishSave_linePort (s : State) (result : WriteResult) (x : ImageContents) :
    (s.finishSave result x).linePort.sound ∧ (s.modes.shipping = true) ∨
      (s.finishSave result x).linePort = s.linePort := by
  cases result <;> simp only [State.finishSave] <;> split
  · next h => exact .inl ⟨Port.sound_ready rfl rfl, h⟩
  · right; simp
  · next h => exact .inl ⟨Port.sound_ready rfl rfl, h⟩
  · right; simp

theorem State.finishSave_setPort (s : State) (result : WriteResult) (x : ImageContents) :
    (s.finishSave result x).setPort = s.setPort := by
  cases result <;> simp only [State.finishSave] <;> split <;>
    simp [State.shipEndsOk, State.shipEndsFault, State.placeReply, State.withPort, State.port]

theorem State.finishSave_write (s : State) (result : WriteResult) (x : ImageContents) :
    (s.finishSave result x).store.write = .idle := by
  rw [State.finishSave_store]
  cases result <;> rfl

theorem State.finishSave_not_shipping (s : State) (result : WriteResult) (x : ImageContents) :
    (s.finishSave result x).modes.shipping = false := by
  rw [State.finishSave_modes]
  split
  · cases result <;> rfl
  · next h => simpa using h

theorem State.finishSave_repliesSound {s : State} (hs : s.repliesSound) (result : WriteResult) (x : ImageContents) :
    (s.finishSave result x).repliesSound := by
  have write := s.finishSave_write result x
  have clear := s.finishSave_not_shipping result x
  have owes : s.owesNoMore (s.finishSave result x) :=
    ⟨by simp, fun h => absurd (clear.symm.trans h) nofun, fun _ _ h => nomatch write.symm.trans h⟩
  rcases s.finishSave_linePort result x with ⟨sound, ship⟩ | same
  · refine ⟨sound, by rw [State.finishSave_setPort]; exact hs.2.1, owes.entries.trans hs.2.2.1, fun h => ?_,
      fun h => absurd (clear.symm.trans h) nofun, fun _ _ h => nomatch write.symm.trans h⟩
    have waits : s.adjustWaits := by simpa [State.adjustWaits] using h
    exact absurd ((hs.2.2.2.1 waits).2.1.symm.trans ship) nofun
  · exact State.repliesSound_of_ports hs owes same (s.finishSave_setPort result x)

theorem State.finishRevocation_port (s : State) (result : WriteResult) (p : PortId) (k : Fin 16) :
    ∃ (u : State) (status : Status) (fields : List Byte), s.finishRevocation result p k = u.placeReply p status fields ∧ u.queue = s.queue ∧
      u.modes = s.modes ∧ u.store.write = .idle ∧ u.linePort = s.linePort ∧ u.setPort = s.setPort := by
  cases result
  · exact ⟨_, _, _, rfl, rfl, rfl, rfl, rfl, rfl⟩
  · exact ⟨_, _, _, rfl, rfl, rfl, rfl, rfl, rfl⟩

theorem State.finishRevocation_repliesSound {s : State} (hs : s.repliesSound) (result : WriteResult) {p : PortId}
    {k : Fin 16} (h : s.store.write = .revoking p k) : (s.finishRevocation result p k).repliesSound := by
  obtain ⟨u, status, fields, e, queue, modes, write, line, set⟩ := s.finishRevocation_port result p k
  have clear : s.modes.shipping = false := Bool.eq_false_iff.mpr fun hship => by
    have := (hs.2.2.2.2.1 hship).1
    rw [State.saveRuns, h] at this
    cases this
  rw [e]
  refine ⟨?_, ?_, ?_, fun hadj => ?_, fun hship => ?_, fun p i hw => ?_⟩
  · cases p
    · exact Port.sound_ready rfl rfl
    · exact line ▸ hs.1
  · cases p
    · exact set ▸ hs.2.1
    · exact Port.sound_ready rfl rfl
  · rw [State.placeReply_queue, queue]; exact hs.2.2.1
  · rw [State.placeReply_queue, queue] at hadj
    obtain ⟨pending, -, free⟩ := hs.2.2.2.1 hadj
    cases p
    · exact absurd h (free k)
    · exact ⟨line ▸ pending, by rw [State.placeReply_modes, modes]; exact clear,
        fun i hw => nomatch write.symm.trans hw⟩
  · rw [State.placeReply_modes, modes, clear] at hship; cases hship
  · rw [State.placeReply_store, write] at hw; cases hw

theorem Event.repliesSound {i : Instr} {s u : State} (h : Event i s u) (hs : s.repliesSound) : u.repliesSound := by
  cases h with
  | poweredOn | powerLost => exact State.repliesSound_of_reset rfl rfl rfl rfl rfl
  | resetAsserted =>
    unfold State.assertReset
    split
    · exact State.repliesSound_of_reset rfl rfl rfl rfl rfl
    · exact hs
  | resetReleased => unfold State.releaseReset; split <;> exact hs
  | signalAppeared => exact hs
  | signalLost =>
    refine State.repliesSound_of_ports hs (State.owesNoMore_of_eq ?_ (by simp) (by simp)) (by simp) (by simp)
    rcases s.signalLost_queue with e | e <;> rw [e]
  | frameStarted => exact State.frameStart_repliesSound hs _
  | inputFrame _ _ f =>
    refine State.repliesSound_of_ports (State.frameStart_repliesSound hs (some f)) (State.owesNoMore_of_eq ?_ ?_ ?_) ?_ ?_ <;>
      simp
  | examined q rest d rec =>
    refine State.repliesSound_of_ports hs ⟨?_, by simp, by simp⟩ (by simp) (by simp)
    rcases s.examineHead_queue q rest rec with e | e <;> rw [e]
    exact (s.place_countP fun e he => by rw [List.mem_singleton.mp he]; rfl).le
  | saveFinished result x => exact State.finishSave_repliesSound hs result x
  | revocationFinished result p k write => exact State.finishRevocation_repliesSound hs result write
  | _ =>
    refine State.repliesSound_of_ports hs (State.owesNoMore_of_eq ?_ ?_ ?_) ?_ ?_ <;> simp

/-! ## The invariant -/

/-- A fetch leaves the port, or consumes the response of a READY one (R169). -/
theorem Port.afterFetch_cases (q : Port) (n : Nat) :
    q.afterFetch n = q ∨ (q.phase = .ready ∧ q.afterFetch n = q.consume) := by
  unfold Port.afterFetch
  split
  · next ready _ =>
    split
    · exact .inr ⟨ready, rfl⟩
    · exact .inl rfl
  · exact .inl rfl

theorem Done.repliesSound {i : Instr} {s t : State} (h : Done i s t) (hs : s.repliesSound) : t.repliesSound := by
  have same := State.owesNoMore_of_eq (s := s) (u := s) rfl rfl rfl
  cases h with
  | nothing => exact hs
  | frameLost p => exact State.repliesSound_withPort hs same rfl rfl (Port.sound_of_same (hs.port p) rfl rfl) fun h => h
  | refused p tag status fields hp => exact State.repliesSound_answered hs same rfl rfl hp ..
  | served c a hp _ level effect =>
    cases a with
    | reply status payload u =>
      obtain ⟨owes, line, set⟩ := effect.owesNoMore
      exact State.repliesSound_answered hs owes line set hp ..
    | wait u => exact effect.repliesSound_wait hs hp level
    | silent u =>
      cases effect
      exact State.repliesSound_of_reset rfl rfl rfl rfl rfl
  | ignored p =>
    unfold State.ignoreTransfer
    split
    · exact hs
    · exact State.repliesSound_withPort hs same rfl rfl (Port.sound_of_same (hs.port p) rfl rfl) fun h => h
  | fetched p n =>
    unfold State.fetch
    dsimp only
    split
    · exact hs
    · split
      · exact State.repliesSound_withPort hs same rfl rfl (Port.sound_of_same (hs.port p) rfl rfl) fun h => h
      · rcases (s.port p).afterFetch_cases n with e | ⟨ready, e⟩ <;> rw [e]
        · exact State.repliesSound_withPort hs same rfl rfl (Port.sound_of_same (hs.port p) rfl rfl) fun h => h
        · exact State.repliesSound_withPort hs same rfl rfl (Port.sound_empty nofun rfl)
            fun h => nomatch ready.symm.trans h
  | occurred _ he => exact he.repliesSound hs

/-- Settles O59: a port takes a request only when no reply of it is still to come, and every reply that comes finds the one
port that waits. -/
theorem deferredRepliesKeepTheirPort : Obligations.DeferredRepliesKeepTheirPort := by
  intro s t hs h
  exact step_keeps h hs (fun _ _ hu => hu) fun i u v hd hu => hd.repliesSound hu

end Sys2Proof.Machine
end

section
/-! PROOFS. Frames: reading and writing them (O3), what no port takes (O4), the checks of R168 (O5, O6, O7), a fetch (O9), and
the front of the queue (O1). -/

namespace Sys2Proof.Machine

open Sys2Proof

/-- Settles O1. -/
theorem stepTakesTheFrontCommand : Obligations.StepTakesTheFrontCommand := fun _ _ _ => rfl

/-! ## Frames and commands (R168, R170) -/

/-- The request an assigned code names is written with that code on that port. -/
theorem frame_of_requestOf? {n : Nat} {p : PortId} {bytes : List Byte} {i : Instr} (h : requestOf? n p bytes = some i) :
    wellFormed i = true ∧ frameBytes i = some (BitVec.ofNat 8 n :: bytes) ∧ framePort i = some p := by
  unfold requestOf? at h
  split at h <;> cases h <;> exact ⟨rfl, rfl, rfl⟩

/-- Every assigned code names a request. -/
theorem requestOf?_of_assigned (p : PortId) (bytes : List Byte) : ∀ n ∈ assignedCodes, (requestOf? n p bytes).isSome := by
  simp only [assignedCodes, List.forall_mem_cons, requestOf?]
  simp

theorem assigned_of_requestOf? {n : Nat} {p : PortId} {bytes : List Byte} (h : requestOf? n p bytes = none) :
    assignedCodes.contains n = false := by
  by_contra hc
  have := requestOf?_of_assigned p bytes n (by simpa using hc)
  rw [h] at this
  cases this

theorem requestOf?_eq_none {n : Nat} (h : assignedCodes.contains n = false) (p : PortId) (bytes : List Byte) :
    requestOf? n p bytes = none := by
  unfold requestOf?
  split <;> first | rfl | exact absurd h (by decide)

/-- What a frame is, by its code. -/
theorem decodeFrame_cases (p : PortId) (frame : List Byte) :
    (ignoredOutright frame = true ∧ decodeFrame p frame = .ignoredFrame p frame) ∨
    ∃ code bytes, frame = code :: bytes ∧ neverRequest code = false ∧
      ((∃ i, requestOf? code.toNat p bytes = some i ∧ decodeFrame p frame = i) ∨
        (requestOf? code.toNat p bytes = none ∧ decodeFrame p frame = .unknownRequest p code bytes)) := by
  cases frame with
  | nil => exact .inl ⟨rfl, rfl⟩
  | cons code bytes =>
    cases hn : neverRequest code with
    | true => exact .inl ⟨hn, by simp [decodeFrame, hn]⟩
    | false =>
      refine .inr ⟨code, bytes, rfl, hn, ?_⟩
      cases hr : requestOf? code.toNat p bytes with
      | some i => exact .inl ⟨i, rfl, by simp [decodeFrame, hn, hr]⟩
      | none => exact .inr ⟨rfl, by simp [decodeFrame, hn, hr]⟩

theorem unknownCode_iff {code : Byte} :
    unknownCode code = true ↔ neverRequest code = false ∧ assignedCodes.contains code.toNat = false := by
  simp [unknownCode]

/-- Settles O3: the code decides the command, and its bytes are carried as they are. -/
theorem framesAndCommandsAgree : Obligations.FramesAndCommandsAgree := by
  constructor
  · intro i p b hw hb hp
    cases i with
    | unknownRequest q code bytes =>
      obtain ⟨never, unassigned⟩ := unknownCode_iff.mp hw
      cases hb
      cases hp
      simp [decodeFrame, never, requestOf?_eq_none unassigned]
    | ignoredFrame q frame =>
      cases hb
      cases hp
      cases b with
      | nil => rfl
      | cons code bytes => simp only [decodeFrame, if_pos (show neverRequest code = true from hw)]
    | _ => cases hb <;> cases hp <;> rfl
  · intro p b
    obtain ⟨ignored, e⟩ | ⟨code, bytes, rfl, never, ⟨i, hi, e⟩ | ⟨none, e⟩⟩ := decodeFrame_cases p b <;> rw [e]
    · exact ⟨ignored, rfl, rfl⟩
    · obtain ⟨well, written, port⟩ := frame_of_requestOf? hi
      exact ⟨well, by simpa using written, port⟩
    · exact ⟨unknownCode_iff.mpr ⟨never, assigned_of_requestOf? none⟩, rfl, rfl⟩

/-! ## Which gate a frame meets -/

/-- A request is served at its gate by its owning block. -/
theorem exec_requestOf? {n : Nat} {p : PortId} {bytes : List Byte} {i : Instr} (h : requestOf? n p bytes = some i) :
    ∃ g own, ∀ s, exec i s = .next (s.serve g p bytes own) := by
  unfold requestOf? at h
  split at h <;> cases h <;> exact ⟨_, _, fun _ => rfl⟩

/-- Every frame with this code is served at the gate by the owning block. -/
def servedBy (code : Byte) (g : Gate) (own : Call → State → Check Answer) : Prop :=
  ∀ p bytes s, exec (decodeFrame p (code :: bytes)) s = .next (s.serve g p bytes own)

/-- The gate of a row of the requests (R145, R163, R171). -/
abbrev RequestRow.gate (r : RequestRow) : Gate :=
  { length := r.length, level := always r.level, starting := decide (r.code ≤ 2) }

theorem requestRow_served (row : RequestRow) (h : row ∈ requestRows) :
    ∃ own, servedBy (BitVec.ofNat 8 row.code) row.gate own := by
  revert h row
  simp only [requestRows, List.forall_mem_cons]
  refine ⟨?_, ?_, ?_, ?_, ?_, ?_, ?_, ?_, ?_, ?_, ?_, ?_, ?_, ?_, ?_, ?_, ?_, ?_, ?_, ?_, ?_, ?_, ?_, ?_, ?_, ?_, ?_, ?_, ?_,
    ?_, ?_, ?_, ?_, ?_, ?_, ?_, ?_, ?_, ?_, nofun⟩ <;> exact ⟨_, fun _ _ _ => rfl⟩

theorem row_served {row : RequestRow} {code : Byte} (h : row ∈ requestRows) (hc : row.code = code.toNat) :
    ∃ own, servedBy code row.gate own := by
  obtain ⟨own, ho⟩ := requestRow_served row h
  rw [hc, BitVec.ofNat_toNat, BitVec.setWidth_eq] at ho
  exact ⟨own, ho⟩

/-- The level Begin Load requires is 0 or 1 (R129). -/
theorem beginLevel_le (s : State) (payload : List Byte) : beginLevel s payload ≤ 1 := by
  unfold beginLevel
  split
  · split <;> decide
  · decide

/-- The level Load Chunk, End Load and Abort Load require is 0 or 1 (R129). -/
theorem loadLevel_le (s : State) (payload : List Byte) : loadLevel s payload ≤ 1 := by
  unfold loadLevel
  split
  · split
    · decide
    · split <;> decide
  · decide

theorem beginLoad_served : servedBy 0x50 { length := some 4, level := beginLevel } ownBeginLoad := fun _ _ _ => rfl
theorem loadChunk_served : servedBy 0x51 { length := none, level := loadLevel } ownLoadChunk := fun _ _ _ => rfl
theorem endLoad_served : servedBy 0x52 { length := none, level := loadLevel } ownEndLoad := fun _ _ _ => rfl
theorem abortLoad_served : servedBy 0x53 { length := some 1, level := loadLevel } ownAbortLoad := fun _ _ _ => rfl

/-! ## The checks of R168 -/

section Checks

variable {s : State} {g : Gate} {p : PortId} {own : Call → State → Check Answer}

/-- A frame without a sound header is answered BAD_LENGTH (R168, check 3). -/
theorem serve_unsound (h : s.listens p) {bytes : List Byte} (hb : header? bytes = none) :
    s.serve g p bytes own = s.answered p (tagOf bytes) .badLength [] := by
  rw [serve_listens h, State.judge, hb]

/-- A payload of another length than the request's fields is answered BAD_LENGTH (R168, check 3). -/
theorem serve_badLength (h : s.listens p) {level tag : Byte} {payload : List Byte} (hlen : payload.length ≤ 256)
    (hg : g.lengthHolds payload = false) :
    s.serve g p (frameOf level tag payload) own = s.answered p tag .badLength [] := by
  rw [serve_listens h, State.judge, header?_frameOf level tag payload hlen]
  simp [hg]

/-- A request that is not answered during STARTING (R168, check 5). -/
theorem serve_starting (h : s.listens p) {level tag : Byte} {payload : List Byte} (hlen : payload.length ≤ 256)
    (hg : g.lengthHolds payload = true) (hs : s.store.startUp ≠ .ready) (never : g.starting = false) :
    s.serve g p (frameOf level tag payload) own = s.answered p tag .starting [] := by
  rw [serve_listens h, State.judge, header?_frameOf level tag payload hlen]
  simp [hg, hs, never]

/-- A request above its required level (R168, check 6). -/
theorem serve_privilege (h : s.listens p) {level tag : Byte} {payload : List Byte} (hlen : payload.length ≤ 256)
    (hg : g.lengthHolds payload = true) (hs : s.store.startUp = .ready ∨ g.starting = true)
    (hl : g.level s payload < s.effectiveLevel p level) :
    s.serve g p (frameOf level tag payload) own = s.answered p tag .privilege [] := by
  rw [serve_listens h, State.judge, header?_frameOf level tag payload hlen]
  rcases hs with hs | hs <;> simp [hg, hs, hl]

theorem RequestRow.lengthHolds {r : RequestRow} {payload : List Byte} (h : r.lengthPasses payload) :
    r.gate.lengthHolds payload = true := by
  unfold Gate.lengthHolds
  split
  · rfl
  · next n hn => simpa using h n hn

end Checks

theorem header?_overlong {level tag lo hi : Byte} {payload : List Byte}
    (h : 256 < lo.toNat + 256 * hi.toNat ∨ payload.length ≠ lo.toNat + 256 * hi.toNat) :
    header? (level :: tag :: lo :: hi :: payload) = none := by
  simp only [header?, nat16]
  exact if_neg fun ⟨hle, hlen⟩ => h.elim (fun hlt => by omega) fun hne => hne hlen

theorem tagOf_short (bytes : List Byte) : tagOf bytes = bytes[1]?.getD 0 := by
  match bytes with
  | [] => rfl
  | [_] => rfl
  | _ :: _ :: _ => rfl

/-- A frame whose header is unsound is answered BAD_LENGTH, whatever its code (R168). -/
theorem exec_unsound {s : State} {p : PortId} {code : Byte} {bytes : List Byte} (h : s.listens p)
    (never : neverRequest code = false) (hb : header? bytes = none) :
    exec (decodeFrame p (code :: bytes)) s = .next (s.answered p (tagOf bytes) .badLength []) := by
  obtain ⟨ignored, -⟩ | ⟨_, _, e', -, ⟨i, hi, e⟩ | ⟨none, e⟩⟩ := decodeFrame_cases p (code :: bytes)
  · rw [ignoredOutright, never] at ignored; cases ignored
  · cases e'
    obtain ⟨g, own, served⟩ := exec_requestOf? hi
    rw [e, served, serve_unsound h hb]
  · cases e'
    have unknown : wellFormed (.unknownRequest p code bytes) = true :=
      unknownCode_iff.mpr ⟨never, assigned_of_requestOf? none⟩
    rw [e]
    simp [exec, execUnknownRequest, whenWellFormed, unknown, State.serveUnknown, h.1, h.2, hb]

/-- The rows with a fixed length that the port checks, Begin Load and Abort Load among them. -/
theorem length_checked {row : RequestRow} {n : Nat} {code : Byte}
    (h : row ∈ requestRows ++ [⟨0x50, 1, some 4⟩, ⟨0x53, 1, some 1⟩]) (hc : row.code = code.toNat)
    (hn : row.length = some n) : ∃ g own, servedBy code g own ∧ g.length = some n := by
  rcases List.mem_append.mp h with h | h
  · obtain ⟨own, served⟩ := row_served h hc
    exact ⟨_, own, served, hn⟩
  · simp only [List.mem_cons, List.not_mem_nil, or_false] at h
    rcases h with rfl | rfl
    · obtain rfl : code = 0x50 := BitVec.eq_of_toNat_eq hc.symm
      exact ⟨_, _, beginLoad_served, hn⟩
    · obtain rfl : code = 0x53 := BitVec.eq_of_toNat_eq hc.symm
      exact ⟨_, _, abortLoad_served, hn⟩

/-- Settles O5. -/
theorem unsoundFramesAnswerBadLength : Obligations.UnsoundFramesAnswerBadLength := by
  intro s p code h never
  refine ⟨fun bytes short => ?_, fun level tag lo hi payload hbad => exec_unsound h never (header?_overlong hbad), ?_, ?_⟩
  · rw [← tagOf_short]
    exact exec_unsound h never (header?_short bytes short)
  · intro row n level tag payload hrow hc hn hne hlen
    obtain ⟨g, own, served, length⟩ := length_checked hrow hc hn
    rw [served, serve_badLength h hlen]
    simpa [Gate.lengthHolds, length] using hne
  · intro level tag payload unassigned hlen
    have unknown : wellFormed (.unknownRequest p code (frameOf level tag payload)) = true :=
      unknownCode_iff.mpr ⟨never, unassigned⟩
    simp [exec, execUnknownRequest, whenWellFormed, unknown, State.serveUnknown, h.1, h.2,
      header?_frameOf level tag payload hlen]

/-- What check 5 or 6 answers at a gate that requires level 0 or 1 (R168). -/
theorem serve_refused {s : State} {g : Gate} {p : PortId} {own : Call → State → Check Answer} {level tag : Byte}
    {payload : List Byte} {status : Status} (h : s.listens p) (hlen : payload.length ≤ 256)
    (hg : g.lengthHolds payload = true) (hstart : g.starting = false) (low : g.level s payload ≤ 1)
    (hs : (s.store.startUp ≠ .ready ∧ status = .starting) ∨
      (s.store.startUp = .ready ∧ 1 < max level.toNat (floor s.modes.mode p) ∧ status = .privilege)) :
    s.serve g p (frameOf level tag payload) own = s.answered p tag status [] := by
  rcases hs with ⟨starting, rfl⟩ | ⟨ready, above, rfl⟩
  · exact serve_starting h hlen hg starting hstart
  · exact serve_privilege h hlen hg (.inl ready) (low.trans_lt above)

/-- A loading request names a LOADING slot of class SERVICE: level 0 (R129). -/
theorem loadLevel_service {s : State} {i : Fin 16} {n : Nat} {d : List Byte} (rest : List Byte)
    (h : s.creds.slots[i] = .loading .service n d) : loadLevel s (BitVec.ofNat 8 i :: rest) = 0 := by
  have hi : (BitVec.ofNat 8 i.val).toNat = i.val := by
    rw [BitVec.toNat_ofNat]
    omega
  simp [loadLevel, hi, h, Slot.isLoading, Slot.class?]

/-- Settles O6. -/
theorem startingAndPrivilegeRefuse : Obligations.StartingAndPrivilegeRefuse := by
  intro s p code level tag payload h hlen
  refine ⟨fun row hrow hc hpass => ?_, fun status hs => ?_, fun ready above => ⟨?_, ?_⟩⟩
  · obtain ⟨own, served⟩ := row_served hrow hc
    have length := RequestRow.lengthHolds hpass
    constructor
    · intro starting later
      rw [served, serve_starting h hlen length starting (decide_eq_false (by omega))]
    · intro reaches above
      refine (served ..).trans (congrArg _ (serve_privilege h hlen length (reaches.imp_right fun hc' => ?_) above))
      exact decide_eq_true (by omega)
  · refine ⟨fun h4 => ?_, ?_, ?_, fun h1 => ?_⟩
    · exact congrArg _ (serve_refused h hlen (by simpa [Gate.lengthHolds] using h4) rfl (beginLevel_le s payload) hs)
    · exact congrArg _ (serve_refused h hlen rfl rfl (loadLevel_le s payload) hs)
    · exact congrArg _ (serve_refused h hlen rfl rfl (loadLevel_le s payload) hs)
    · exact congrArg _ (serve_refused h hlen (by simpa [Gate.lengthHolds] using h1) rfl (loadLevel_le s payload) hs)
  · rintro slot lo hi rfl
    exact congrArg _ (serve_privilege h hlen rfl (.inl ready) above)
  · rintro i n d rest hslot rfl
    have zero : loadLevel s (BitVec.ofNat 8 i :: rest) < s.effectiveLevel p level := by
      rw [loadLevel_service rest hslot]; exact above
    refine ⟨congrArg _ (serve_privilege h hlen rfl (.inl ready) zero),
      congrArg _ (serve_privilege h hlen rfl (.inl ready) zero), ?_⟩
    rintro rfl
    exact congrArg _ (serve_privilege h hlen rfl (.inl ready) zero)

/-- A gate below level 2 keeps every frame of the Set Port from its owning block (R144, R145). -/
theorem serve_set {s : State} {g : Gate} (low : ∀ payload, g.level s payload ≤ 1) (bytes : List Byte)
    (own : Call → State → Check Answer) : ∃ q, s.serve g .set bytes own = s.withPort .set q := by
  obtain h | ⟨-, -, h⟩ | ⟨-, tag, status, h⟩ | ⟨-, c, -, -, hlevel, ⟨b, hb⟩, -⟩ :=
    serve_cases (rfl : s.serve g .set bytes own = _)
  · exact ⟨s.setPort, h⟩
  · exact ⟨_, h⟩
  · exact ⟨_, h⟩
  · have := (admits_one (hb.ge.trans (hlevel.trans (low c.payload)))).2
    cases this

/-- The gates below level 2. -/
theorem lowRow_served {code : Byte}
    (h : (∃ row ∈ requestRows, row.code = code.toNat ∧ row.level < 2) ∨ code.toNat ∈ [0x50, 0x51, 0x52, 0x53]) :
    ∃ g own, servedBy code g own ∧ ∀ s payload, g.level s payload ≤ 1 := by
  rcases h with ⟨row, hrow, hc, low⟩ | h
  · obtain ⟨own, served⟩ := row_served hrow hc
    exact ⟨_, own, served, fun _ _ => Nat.le_of_lt_succ low⟩
  · simp only [List.mem_cons, List.not_mem_nil, or_false] at h
    rcases h with h | h | h | h
    · obtain rfl : code = 0x50 := BitVec.eq_of_toNat_eq h
      exact ⟨_, _, beginLoad_served, beginLevel_le⟩
    · obtain rfl : code = 0x51 := BitVec.eq_of_toNat_eq h
      exact ⟨_, _, loadChunk_served, loadLevel_le⟩
    · obtain rfl : code = 0x52 := BitVec.eq_of_toNat_eq h
      exact ⟨_, _, endLoad_served, loadLevel_le⟩
    · obtain rfl : code = 0x53 := BitVec.eq_of_toNat_eq h
      exact ⟨_, _, abortLoad_served, loadLevel_le⟩

/-- Settles O7: the Set Port's floor is 2, above what these requests require. -/
theorem setPortReachesLevelTwoOnly : Obligations.SetPortReachesLevelTwoOnly := by
  intro s code bytes h
  obtain ⟨g, own, served, low⟩ := lowRow_served h
  obtain ⟨q, hq⟩ := serve_set (s := s) (low s) bytes own
  exact ⟨_, served .set bytes s, by rw [hq]; rfl⟩

/-! ## What no port takes (R165, R166, R168) -/

/-- The bits of a byte, the most significant first, spell it. -/
theorem byteOfBits_bits (b : Byte) : byteOfBits ((List.range 8).map b.getMsbD) = b := by
  apply BitVec.eq_of_toNat_eq
  have bit : ∀ k, b.toNat / 2 ^ k = 2 * (b.toNat / 2 ^ (k + 1)) + b.toNat / 2 ^ k % 2 := fun k => by
    rw [Nat.pow_succ, ← Nat.div_div_eq_div_mul]
    omega
  have top : b.toNat / 2 ^ 8 = 0 := Nat.div_eq_of_lt b.isLt
  have spelled := bit 0
  rw [bit 1, bit 2, bit 3, bit 4, bit 5, bit 6, bit 7, top] at spelled
  have hb := b.isLt
  simp only [byteOfBits, List.range, List.range.loop, List.map_cons, List.map_nil, List.foldl_cons, List.foldl_nil,
    BitVec.getMsbD_eq_getLsbD, BitVec.getLsbD, Nat.reduceLT, decide_true, Bool.true_and, Nat.reduceSub,
    Nat.toNat_testBit, BitVec.toNat_ofNat]
  rw [← spelled, pow_zero, Nat.div_one, Nat.mod_eq_of_lt hb]

/-- The bytes of a transaction, from its bits; a byte cut short is discarded (R166). -/
theorem bytesOfBits_bits (bytes : List Byte) {cut : List Bool} (h : cut.length < 8) :
    bytesOfBits (bytes.flatMap (fun b => (List.range 8).map b.getMsbD) ++ cut) = bytes := by
  induction bytes with
  | nil =>
    match cut with
    | [] | [_] | [_, _] | [_, _, _] | [_, _, _, _] | [_, _, _, _, _] | [_, _, _, _, _, _] | [_, _, _, _, _, _, _] => rfl
    | _ :: _ :: _ :: _ :: _ :: _ :: _ :: _ :: _ => simp at h; omega
  | cons b bytes ih =>
    rw [List.flatMap_cons, List.append_assoc]
    have head := byteOfBits_bits b
    simp only [List.range, List.range.loop, List.map_cons, List.map_nil, List.cons_append, List.nil_append,
      bytesOfBits] at head ih ⊢
    rw [head, ih]

theorem whenWellFormed_true {i : Instr} (h : wellFormed i = true) (after : State) : whenWellFormed i after = .next after :=
  if_pos h

/-- No frame is taken while the ports are deaf. -/
theorem exec_deaf {s : State} (h : s.deaf = true) (p : PortId) (frame : List Byte) :
    exec (decodeFrame p frame) s = .next s := by
  obtain ⟨ignored, e⟩ | ⟨code, bytes, rfl, never, ⟨i, hi, e⟩ | ⟨none, e⟩⟩ := decodeFrame_cases p frame <;> rw [e]
  · refine (whenWellFormed_true (show wellFormed (.ignoredFrame p frame) = true from ignored) _).trans ?_
    rw [State.ignoreTransfer, if_pos h]
  · obtain ⟨g, own, served⟩ := exec_requestOf? hi
    rw [served, serve_deaf h]
  · refine (whenWellFormed_true (i := .unknownRequest p code bytes) ?_ _).trans ?_
    · exact unknownCode_iff.mpr ⟨never, assigned_of_requestOf? none⟩
    · rw [State.serveUnknown, if_pos h]

/-- A frame met while PENDING sets the ignored mark (R165). -/
theorem exec_pendingPort {s : State} {p : PortId} (h : s.deaf = false) (hp : (s.port p).phase = .pending) {code : Byte}
    (never : neverRequest code = false) (bytes : List Byte) :
    exec (decodeFrame p (code :: bytes)) s = .next (s.loseFrame p) := by
  obtain ⟨ignored, -⟩ | ⟨_, _, e', -, ⟨i, hi, e⟩ | ⟨none, e⟩⟩ := decodeFrame_cases p (code :: bytes)
  · rw [ignoredOutright, never] at ignored; cases ignored
  · cases e'
    obtain ⟨g, own, served⟩ := exec_requestOf? hi
    rw [e, served, serve_pending h hp]
  · cases e'
    rw [e]
    refine (whenWellFormed_true (i := .unknownRequest p code bytes) ?_ _).trans ?_
    · exact unknownCode_iff.mpr ⟨never, assigned_of_requestOf? none⟩
    · simp [State.serveUnknown, h, hp]

/-- Settles O4. -/
theorem untakenFramesLeaveTheirMarks : Obligations.UntakenFramesLeaveTheirMarks := by
  refine ⟨fun s p => ⟨fun frame hf => ?_, fun bytes hb => ?_, fun hd frame => exec_deaf hd p frame,
    fun hd hp code bytes never => exec_pendingPort hd hp never bytes, fun hd direction k hne => ?_⟩,
    fun bytes cut hcut => congrArg _ (bytesOfBits_bits bytes hcut), rfl⟩
  · exact whenWellFormed_true (show wellFormed (.ignoredFrame p frame) = true from hf) _
  · exact whenWellFormed_true (show wellFormed (.ignoredTransaction bytes) = true from hb) _
  · exact lsdo_no_fetch hd (fun e => hne (BitVec.eq_of_toNat_eq e)) k

/-! ## Fetches (R166, R167, R169) -/

theorem exec_fetch {s : State} (h : s.deaf = false) (p : PortId) (n : Nat) :
    exec (.fetch p n) s = .next (s.withPort p
      { (s.port p).afterFetch n with driven := (s.port p).stateByte :: (s.port p).clockedOut n }) :=
  congrArg _ (fetch_port h p n)

theorem Port.stateByte_ready {q : Port} (h : q.phase = .ready) : q.stateByte = if q.ignored then 6 else 2 := by
  rw [Port.stateByte, h]
  cases q.ignored <;> rfl

theorem Port.response_ready {q : Port} {r : Response} (h : q.phase = .ready) (hr : q.slot = some r) :
    q.response = r.bytes := by
  simp [Port.response, h, hr]

theorem Port.response_not_ready {q : Port} (h : q.phase ≠ .ready) : q.response = [] := by
  unfold Port.response
  split
  · exact absurd ‹_› h
  · rfl

theorem Port.afterFetch_ready {q : Port} {r : Response} (h : q.phase = .ready) (hr : q.slot = some r) (n : Nat) :
    q.afterFetch n = if r.bytes.length ≤ n then q.consume else q := by
  simp [Port.afterFetch, h, hr]

theorem Port.afterFetch_not_ready {q : Port} (h : q.phase ≠ .ready) (n : Nat) : q.afterFetch n = q :=
  (q.afterFetch_cases n).resolve_right fun ⟨ready, _⟩ => h ready

theorem Response.bytes_length (r : Response) : r.bytes.length = 4 + r.payload.length := by
  simp [Response.bytes]
  omega

/-- The response, then 0x00: byte by byte as LSDO carries it. -/
theorem clockedOut_eq_range (q : Port) (n : Nat) :
    q.stateByte :: q.clockedOut n = (List.range (n + 1)).map (fun k => (q.stateByte :: q.response).getD k 0) := by
  refine List.ext_getElem ?_ fun k hk _ => ?_
  · simp [Port.clockedOut]; omega
  · rw [List.getElem_map, List.getElem_range]
    cases k with
    | zero => rfl
    | succ k =>
      simp only [List.getElem_cons_succ, List.getD_cons_succ, Port.clockedOut]
      rw [List.getElem_append]
      split
      · next h =>
        rw [List.length_take] at h
        rw [List.getElem_take, List.getD_eq_getElem _ _ (by omega)]
      · next h =>
        rw [List.length_cons] at hk
        rw [List.length_take] at h
        simp only [Port.clockedOut, List.length_append, List.length_take, List.length_replicate] at hk
        rw [List.getElem_replicate, List.getD_eq_default _ _ (by omega)]

/-- Settles O9. -/
theorem fetchSendsAndConsumesTheResponse : Obligations.FetchSendsAndConsumesTheResponse := by
  intro s p n h
  refine ⟨fun r ready hr => ⟨fun whole => ?_, fun short => ?_⟩, fun hne => ?_, _, exec_fetch h .line n, ?_⟩
  · have bytes : r.bytes.length ≤ n := whole
    rw [exec_fetch h, Port.afterFetch_ready ready hr, if_pos bytes, Port.stateByte_ready ready, Port.clockedOut,
      Port.response_ready ready hr, List.take_of_length_le bytes, Response.bytes_length]
    rfl
  · have bytes : n < r.bytes.length := short
    rw [exec_fetch h, Port.afterFetch_ready ready hr, if_neg (Nat.not_le.mpr bytes), Port.stateByte_ready ready,
      Port.clockedOut, Port.response_ready ready hr, Nat.sub_eq_zero_of_le bytes.le]
    simp only [List.replicate_zero, List.append_nil]
    rfl
  · rw [exec_fetch h, Port.afterFetch_not_ready hne, Port.clockedOut, Port.response_not_ready hne, List.take_nil, List.nil_append]
    rfl
  · have driven := clockedOut_eq_range s.linePort n
    refine (congrArg (List.map some) driven).trans ?_
    rw [List.map_map]
    exact List.map_congr_left fun k _ => (lsdo_fetch h k).symm

end Sys2Proof.Machine
end

section
/-! PROOFS. Requests at their owning blocks: the shipping indicator (O8), identity and status (O10), attention (O11), the resets
(O13), the hold and the bypass (O19, O20), the pattern requests (O39). -/

namespace Sys2Proof.Machine

open Sys2Proof

/-! ## Fields of a payload that is long enough -/

theorem read8_of_length {bytes : List Byte} {n : Nat} (h : bytes.length = n + 1) :
    ∃ v rest, read8 bytes = .ok (v, rest) ∧ rest.length = n := by
  match bytes with
  | b :: rest => exact ⟨b.toNat, rest, rfl, by simpa using h⟩

theorem read16_of_length {bytes : List Byte} {n : Nat} (h : bytes.length = n + 2) :
    ∃ v rest, read16 bytes = .ok (v, rest) ∧ rest.length = n := by
  match bytes with
  | [_] => simp at h
  | lo :: hi :: rest => exact ⟨nat16 lo hi, rest, rfl, by simpa using h⟩

/-! ## The shipping indicator (R149) -/

section Busy

variable {c : Call} {s : State} (h : s.modes.shipping = true)

include h

theorem ownReset_busy : ownReset c s = .error (.busy, []) := by simp [ownReset, h]

theorem checkEditing_busy : checkEditing s = .error (.busy, []) := by simp [checkEditing, h]

theorem ownWriteKnots_busy : ownWriteKnots c s = .error (.busy, []) := by
  simp [ownWriteKnots, checkWriteKnots, checkEditing_busy h]

theorem ownAdjustKnot_busy : ownAdjustKnot c s = .error (.busy, []) := by
  simp [ownAdjustKnot, checkAdjustKnot, checkEditing_busy h]

theorem ownPinArea_busy : ownPinArea c s = .error (.busy, []) := by
  simp [ownPinArea, checkArea, checkEditing_busy h]

theorem ownUnpinArea_busy : ownUnpinArea c s = .error (.busy, []) := by
  simp [ownUnpinArea, checkArea, checkEditing_busy h]

theorem ownRetireKnot_busy : ownRetireKnot c s = .error (.busy, []) := by
  simp [ownRetireKnot, checkKnot, checkEditing_busy h]

theorem ownRestoreKnot_busy : ownRestoreKnot c s = .error (.busy, []) := by
  simp [ownRestoreKnot, checkKnot, checkEditing_busy h]

theorem ownSubmitReadings_busy : ownSubmitReadings c s = .error (.busy, []) := by
  simp [ownSubmitReadings, checkSubmitReadings, checkEditing_busy h]

theorem ownHoldUpdates_busy : ownHoldUpdates c s = .error (.busy, []) := by simp [ownHoldUpdates, h]

theorem ownReleaseUpdates_busy : ownReleaseUpdates c s = .error (.busy, []) := by simp [ownReleaseUpdates, h]

theorem ownStepUpdates_busy : ownStepUpdates c s = .error (.busy, []) := by simp [ownStepUpdates, h]

theorem ownSetBypass_busy (hl : c.payload.length = 1) : ownSetBypass c s = .error (.busy, []) := by
  obtain ⟨_, _, e, -⟩ := read8_of_length hl
  simp [ownSetBypass, e, h]

theorem ownSetTargets_busy (hl : c.payload.length = 7) : ownSetTargets c s = .error (.busy, []) := by
  obtain ⟨_, _, e1, h1⟩ := read8_of_length hl
  obtain ⟨_, _, e2, h2⟩ := read16_of_length h1
  obtain ⟨_, _, e3, h3⟩ := read16_of_length h2
  obtain ⟨_, _, e4, -⟩ := read16_of_length h3
  simp [ownSetTargets, e1, e2, e3, e4, h]

theorem ownSetConvergence_busy (hl : c.payload.length = 7) : ownSetConvergence c s = .error (.busy, []) := by
  obtain ⟨_, _, e1, h1⟩ := read16_of_length hl
  obtain ⟨_, _, e2, h2⟩ := read16_of_length h1
  obtain ⟨_, _, e3, h3⟩ := read16_of_length h2
  obtain ⟨_, _, e4, -⟩ := read8_of_length h3
  simp [ownSetConvergence, e1, e2, e3, e4, h]

theorem ownSelectSource_busy (hl : c.payload.length = 1) : ownSelectSource c s = .error (.busy, []) := by
  obtain ⟨_, _, e, -⟩ := read8_of_length hl
  simp [ownSelectSource, e, h]

theorem ownShowPattern_busy (hl : c.payload.length = 5) : ownShowPattern c s = .error (.busy, []) := by
  obtain ⟨_, _, e1, h1⟩ := read8_of_length hl
  obtain ⟨_, _, e2, h2⟩ := read8_of_length h1
  obtain ⟨_, _, e3, h3⟩ := read16_of_length h2
  obtain ⟨_, _, e4, -⟩ := read8_of_length h3
  simp [ownShowPattern, e1, e2, e3, e4, h]

theorem ownSetPatternTiming_busy (hl : c.payload.length = 4) : ownSetPatternTiming c s = .error (.busy, []) := by
  obtain ⟨_, _, e1, h1⟩ := read16_of_length hl
  obtain ⟨_, _, e2, -⟩ := read16_of_length h1
  simp [ownSetPatternTiming, e1, e2, h]

theorem ownSaveImage_busy (mode : s.modes.mode ≠ .field) : ownSaveImage c s = .error (.busy, []) := by
  simp [ownSaveImage, require_pos (bne_iff_ne.mpr mode), h]

end Busy

/-- The owning block refuses every payload of the row's length with BUSY while the shipping indicator is set. -/
def busyWhileShipping (row : RequestRow) (own : Call → State → Check Answer) : Prop :=
  ∀ c s, s.modes.shipping = true → row.lengthPasses c.payload → (row.level ≤ 1 → s.modes.mode ≠ .field) →
    own c s = .error (.busy, [])

theorem eq_ofNat_of_toNat {b : Byte} {n : Nat} (h : b.toNat = n) : b = BitVec.ofNat 8 n := by
  rw [← h, BitVec.ofNat_toNat, BitVec.setWidth_eq]

/-- The rows whose check order puts the indicator first. -/
theorem busyRow_served {code : Byte}
    (h : code.toNat ∈ [0x05, 0x13, 0x14, 0x15, 0x16, 0x17, 0x18, 0x1A, 0x1B, 0x1C, 0x1D, 0x20, 0x21, 0x22, 0x30, 0x31, 0x32,
      0x60]) :
    ∃ row ∈ requestRows, row.code = code.toNat ∧ ∃ own, servedBy code row.gate own ∧ busyWhileShipping row own := by
  simp only [List.mem_cons, List.not_mem_nil, or_false] at h
  rcases h with h | h | h | h | h | h | h | h | h | h | h | h | h | h | h | h | h | h <;>
    obtain rfl := eq_ofNat_of_toNat h
  · exact ⟨⟨0x05, 2, some 0⟩, by decide, rfl, _, fun _ _ _ => rfl, fun _ _ h _ _ => ownReset_busy h⟩
  · exact ⟨⟨0x13, 1, none⟩, by decide, rfl, _, fun _ _ _ => rfl, fun _ _ h _ _ => ownWriteKnots_busy h⟩
  · exact ⟨⟨0x14, 1, none⟩, by decide, rfl, _, fun _ _ _ => rfl, fun _ _ h _ _ => ownAdjustKnot_busy h⟩
  · exact ⟨⟨0x15, 1, some 9⟩, by decide, rfl, _, fun _ _ _ => rfl, fun _ _ h _ _ => ownPinArea_busy h⟩
  · exact ⟨⟨0x16, 1, some 9⟩, by decide, rfl, _, fun _ _ _ => rfl, fun _ _ h _ _ => ownUnpinArea_busy h⟩
  · exact ⟨⟨0x17, 1, some 4⟩, by decide, rfl, _, fun _ _ _ => rfl, fun _ _ h _ _ => ownRetireKnot_busy h⟩
  · exact ⟨⟨0x18, 1, some 4⟩, by decide, rfl, _, fun _ _ _ => rfl, fun _ _ h _ _ => ownRestoreKnot_busy h⟩
  · exact ⟨⟨0x1A, 2, some 1⟩, by decide, rfl, _, fun _ _ _ => rfl, fun _ _ h hl _ => ownSetBypass_busy h (hl 1 rfl)⟩
  · exact ⟨⟨0x1B, 1, some 0⟩, by decide, rfl, _, fun _ _ _ => rfl, fun _ _ h _ _ => ownHoldUpdates_busy h⟩
  · exact ⟨⟨0x1C, 1, some 0⟩, by decide, rfl, _, fun _ _ _ => rfl, fun _ _ h _ _ => ownReleaseUpdates_busy h⟩
  · exact ⟨⟨0x1D, 1, some 0⟩, by decide, rfl, _, fun _ _ _ => rfl, fun _ _ h _ _ => ownStepUpdates_busy h⟩
  · exact ⟨⟨0x20, 1, some 7⟩, by decide, rfl, _, fun _ _ _ => rfl, fun _ _ h hl _ => ownSetTargets_busy h (hl 7 rfl)⟩
  · exact ⟨⟨0x21, 1, some 7⟩, by decide, rfl, _, fun _ _ _ => rfl, fun _ _ h hl _ => ownSetConvergence_busy h (hl 7 rfl)⟩
  · exact ⟨⟨0x22, 1, none⟩, by decide, rfl, _, fun _ _ _ => rfl, fun _ _ h _ _ => ownSubmitReadings_busy h⟩
  · exact ⟨⟨0x30, 1, some 1⟩, by decide, rfl, _, fun _ _ _ => rfl, fun _ _ h hl _ => ownSelectSource_busy h (hl 1 rfl)⟩
  · exact ⟨⟨0x31, 1, some 5⟩, by decide, rfl, _, fun _ _ _ => rfl, fun _ _ h hl _ => ownShowPattern_busy h (hl 5 rfl)⟩
  · exact ⟨⟨0x32, 1, some 4⟩, by decide, rfl, _, fun _ _ _ => rfl, fun _ _ h hl _ => ownSetPatternTiming_busy h (hl 4 rfl)⟩
  · exact ⟨⟨0x60, 1, some 0⟩, by decide, rfl, _, fun _ _ _ => rfl, fun _ _ h _ mode => ownSaveImage_busy h (mode le_rfl)⟩

/-- A code has one row. -/
theorem row_eq_of_code : ∀ row ∈ requestRows, ∀ row' ∈ requestRows, row.code = row'.code → row = row' := by decide

/-- Settles O8. -/
theorem shippingIndicatorRefusesChanges : Obligations.ShippingIndicatorRefusesChanges := by
  intro s p code level tag payload row hrow hc hcode admits pass hlen ship
  obtain ⟨row', hrow', hc', own, served, busy⟩ := busyRow_served hcode
  obtain rfl := row_eq_of_code row hrow row' hrow' (hc.trans hc'.symm)
  rw [served, serve_admitted admits hlen (RequestRow.lengthHolds pass) rfl]
  rw [busy _ s ship pass fun low => (admits_one (admits.2.2.trans low)).1, settle_error]

/-! ## Identity and status (R176, R177) -/

theorem identityPayload_eq (fuse : Bool) :
    identityPayload fuse = [0x60, 0x44, 2, 0x00, 0x00, 0x02, 0x00, 16, 8, 64, 0x00, 0x01, 8, if fuse then 1 else 0] := by
  cases fuse <;> rfl

theorem StartUp.number_eq (x : StartUp) : x.number = if x = .ready then 1 else 0 := by cases x <;> rfl

theorem Guard.isRunning_eq (g : Guard) : g.isRunning = (g != .stopped) := by cases g <;> rfl

theorem Detection.report_eq (d : Detection) :
    d.report =
      match d with
      | .held h src b =>
        u8 1 ++ u8 h.tag ++ u8 h.kind.number ++ u16 h.level ++ u8 (channelNumber h.channels) ++ u8 src.number ++ u32 b.toNat
      | _ => u8 0 := by
  cases d <;> rfl

/-- Settles O10. -/
theorem identityAndStatusAreReported : Obligations.IdentityAndStatusAreReported := by
  intro s p level tag h hl
  have taken : ∀ own : Call → State → Check Answer,
      s.serve { length := some 0, level := always 2, starting := true } p (frameOf level tag []) own =
        s.settle p tag (own { port := p, level := s.effectiveLevel p level, tag := tag, payload := [] } s) := fun own =>
    serve_taken h (Nat.zero_le _) rfl (.inr rfl) hl
  constructor
  · refine (congrArg Host.Outcome.next (taken ownReadIdentity)).trans ?_
    rw [ownReadIdentity, settle_reply, identityPayload_eq]
  · refine (congrArg Host.Outcome.next (taken ownReadStatus)).trans ?_
    refine congrArg (fun l => Host.Outcome.next (s.answered p tag .ok l)) (?_ : statusPayload s = _)
    unfold statusPayload
    rewrite [StartUp.number_eq, Guard.isRunning_eq, Detection.report_eq]
    rfl

/-! ## Attention (R173, R174, R175) -/

theorem BitVec_ne_zero_iff {w : Nat} (x : BitVec w) : (x != 0) = true ↔ ∃ k : Fin w, x.getLsbD k = true := by
  rw [bne_iff_ne, ne_eq, ← not_iff_not]
  push Not
  constructor
  · rintro rfl k
    simp
  · intro h
    exact BitVec.eq_of_getLsbD_eq fun i hi => by simpa using h ⟨i, hi⟩

/-- A port's alert line is low just while one of its flags is set and unmasked (R173). -/
theorem State.alertLow_iff (s : State) (p : PortId) :
    s.alertLow p = true ↔ s.pins.supply = true ∧ s.pins.resetAsserted = false ∧
      ∃ k : Fin 11, (s.attention.flags p).getLsbD k = true ∧ (s.attention.maskOf p).getLsbD k = false := by
  simp only [State.alertLow, Bool.and_eq_true, BitVec_ne_zero_iff, BitVec.getLsbD_and, BitVec.getLsbD_not,
    Bool.not_eq_true', Fin.is_lt, decide_true, true_and, and_assoc]

/-- Settles O11. -/
theorem attentionIsReadAndMasked : Obligations.AttentionIsReadAndMasked := by
  refine ⟨fun s p level tag h => ⟨?_, fun mask => ?_, fun bits low high => ?_⟩,
    fun s => ⟨s.alertLow_iff .line, s.alertLow_iff .set⟩⟩
  · refine (congrArg Host.Outcome.next (serve_admitted h (by decide) rfl rfl)).trans ?_
    rw [ownReadAttention, settle_reply]
    cases p <;> rfl
  · refine (congrArg Host.Outcome.next (serve_admitted h (by simp) rfl rfl)).trans ?_
    have lt : mask.toNat < 2048 := mask.isLt
    simp only [ownSetAttentionMask, read16_u16_end mask.toNat (by omega), check_bind_ok, require_pos (decide_eq_true lt),
      check_pure, settle_reply, BitVec.ofNat_toNat, BitVec.setWidth_eq]
    cases p <;> rfl
  · refine (congrArg Host.Outcome.next (serve_admitted h (by simp) rfl rfl)).trans ?_
    simp only [ownSetAttentionMask, read16_u16_end bits high, check_bind_ok,
      require_neg (decide_eq_false (Nat.not_lt.mpr low)), check_bind_error, settle_error]

end Sys2Proof.Machine
end

section
/-! PROOFS. The resets (O13), the hold and the bypass (O19, O20), the settings of the Convergence Unit (O36), the pattern
requests (O39). -/

namespace Sys2Proof.Machine

open Sys2Proof

/-! ## Resets (R162) -/

/-- A reset leaves the reset values, with the frame timing's own rules (R114, R162). -/
theorem State.volatileReset_eq (s : State) (startUp : StartUp) :
    s.volatileReset startUp = s.atResetValues startUp s.modes.failures s.timingAfterReset := rfl

theorem State.timingAfterReset_eq (s : State) :
    s.timingAfterReset = FrameTiming.atResetValues
      (if s.pins.signal ∧ s.timing.internalTail = false ∧ s.generator.effective = .external then .input else .internal)
      (s.timing.frame.map (fun f => { f with begunReady := false }))
      (s.timing.internalTail || (s.generator.effective == .internal && s.pins.signal)) := by
  have source : (if s.pins.signal && !s.keepsInternalTail then TimingSource.input else .internal) =
      if s.pins.signal ∧ s.timing.internalTail = false ∧ s.generator.effective = .external then .input else .internal := by
    unfold State.keepsInternalTail
    cases s.pins.signal <;> cases s.timing.internalTail <;> cases s.generator.effective <;> rfl
  rw [State.timingAfterReset, source]
  rfl

/-- A request that the port admits is settled with what its owning block answers. -/
theorem exec_settled {i : Instr} {s : State} {g : Gate} {p : PortId} {level tag : Byte} {payload : List Byte}
    {own : Call → State → Check Answer} {required : Nat}
    (served : exec i s = .next (s.serve g p (frameOf level tag payload) own)) (h : s.admits p level required)
    (hlen : payload.length ≤ 256) (hgate : g.lengthHolds payload = true) (hlevel : g.level s payload = required) :
    exec i s = .next (s.settle p tag
      (own { port := p, level := s.effectiveLevel p level, tag := tag, payload := payload } s)) := by
  rw [served, serve_admitted h hlen hgate hlevel]

theorem State.deaf_iff (s : State) : s.deaf = false ↔ s.pins.supply = true ∧ s.pins.resetAsserted = false := by
  simp [State.deaf]

/-- The Set Port acknowledges the sampled address while the ports take frames, and no other (R167). -/
theorem State.acknowledges_iff (s : State) (address : BitVec 7) :
    s.acknowledges address = true ↔ s.pins.supply = true ∧ s.pins.resetAsserted = false ∧ address = s.pins.address := by
  simp [State.acknowledges, State.deaf_iff, and_assoc]

/-- Settles O13. -/
theorem resetsRestoreResetValues : Obligations.ResetsRestoreResetValues := by
  refine ⟨fun s p level tag h => ⟨fun idle clear => ?_, fun busy => ?_⟩, fun s => ⟨fun supply released => ?_,
    fun supply asserted => ?_, ?_, fun supply => ?_⟩, fun s => ⟨s.acknowledges_iff, fun supply released bytes taken => ?_,
    fun transfer other => ?_, fun c t hc => exec_pins hc⟩⟩
  · refine (exec_settled rfl h (Nat.zero_le _) rfl rfl).trans ?_
    have released : s.pins.resetAsserted = false := ((State.deaf_iff s).mp h.1.1).2
    simp only [ownReset, State.writeRuns, idle, clear, bne_self_eq_false, Bool.not_false, Bool.and_self, require_true,
      check_bind_ok, check_pure, settle_silent, State.startUpAfterReset, released, Bool.false_eq_true, if_false,
      State.volatileReset_eq, State.timingAfterReset_eq]
  · refine (exec_settled rfl h (Nat.zero_le _) rfl rfl).trans ?_
    have refused : (!s.writeRuns && !s.modes.shipping) = false := by
      rcases busy with busy | busy <;> simp [State.writeRuns, busy]
    rw [ownReset, require_neg refused, check_bind_error, settle_error]
  · have e : exec .resetLineAsserted s = .next
        (({ s with pins := { s.pins with resetAsserted := true } } : State).volatileReset .waiting) := by
      simp [exec, execResetLineAsserted, State.assertReset, supply, released]
    rw [e, State.volatileReset_eq, State.timingAfterReset_eq]
  · simp [exec, execResetLineReleased, State.releaseReset, supply, asserted]
  · rfl
  · simp only [exec, execSupplyLost, supply, if_true]
    rfl
  · have acknowledged : s.acknowledges s.pins.address = true := (s.acknowledges_iff _).mpr ⟨supply, released, rfl⟩
    refine ⟨?_, ?_, ?_, ?_⟩
    · simp [State.acknowledgements, acknowledged, Nat.add_comm]
    · exact transferCommand?_eq_some.mpr ⟨acknowledged, rfl⟩
    · simp [State.acknowledgements, acknowledged]
    · exact transferCommand?_eq_some.mpr ⟨acknowledged, rfl⟩
  · have unacknowledged : s.acknowledges transfer.address = false := by
      rw [← Bool.not_eq_true, State.acknowledges_iff]
      rintro ⟨supply, released, same⟩
      rcases other with other | other | other
      · rw [supply] at other; cases other
      · rw [released] at other; cases other
      · exact other same
    refine ⟨fun bit hbit => (acknowledgements_eq s transfer bit hbit).trans unacknowledged, ?_⟩
    rw [State.transferCommand?, unacknowledged]
    rfl

/-! ## The hold and the bypass (R36, R37, R46 to R48) -/

theorem State.withHold_of_eq {s : State} {h : HoldState} (e : s.queue.hold = h) : s.withHold h = s := by
  subst e
  rfl

/-- Settles O19. -/
theorem holdRequestsMoveTheHoldState : Obligations.HoldRequestsMoveTheHoldState := by
  intro s p level tag h clear
  refine ⟨fun hold => ?_, fun hold => ?_, ?_, fun hold => ?_, fun hold => ?_⟩ <;>
    refine (exec_settled rfl h (Nat.zero_le _) rfl rfl).trans ?_
  · have held : (if s.queue.hold = .released then s.withHold .held else s) = s.withHold .held := by
      cases e : s.queue.hold with
      | released => rfl
      | held => exact (State.withHold_of_eq e).symm
      | stepPending => exact absurd e hold
    rw [ownHoldUpdates, require_pos (by rw [clear]; rfl), check_bind_ok, check_pure, held]
    rfl
  · have kept : (if s.queue.hold = .released then s.withHold .held else s) = s.withHold .stepPending := by
      rw [if_neg (by rw [hold]; exact nofun), State.withHold_of_eq hold]
    rw [ownHoldUpdates, require_pos (by rw [clear]; rfl), check_bind_ok, check_pure, kept]
    rfl
  · rw [ownReleaseUpdates, require_pos (by rw [clear]; rfl), check_bind_ok, check_pure]
    rfl
  · rw [ownStepUpdates, require_pos (by rw [clear]; rfl), check_bind_ok, require_pos (bne_iff_ne.mpr hold), check_bind_ok,
      check_pure]
    rfl
  · rw [ownStepUpdates, require_pos (by rw [clear]; rfl), check_bind_ok, require_neg (by rw [hold]; rfl),
      check_bind_error, settle_error]

theorem CorrectionEngine.setBypass_eq (e : CorrectionEngine) (level : Nat) (on : Bool) :
    e.setBypass level on =
      { e with
        lineBypass := if level ≤ 1 then on else e.lineBypass
        viewerBypass := if level ≤ 1 then e.viewerBypass else on } := by
  unfold CorrectionEngine.setBypass
  split <;> rfl

/-- Settles O20. -/
theorem setBypassFollowsTheLevel : Obligations.SetBypassFollowsTheLevel := by
  intro s p level tag on h clear
  refine ⟨fun line viewer hline hviewer => ?_, fun value above => ?_⟩
  · refine (exec_settled rfl h (by simp) rfl rfl).trans ?_
    have value : ((if on then 1 else 0 : Byte).toNat ≤ 1) ∧ ((if on then 1 else 0 : Byte).toNat == 1) = on := by
      cases on <;> decide
    simp only [ownSetBypass, read8_byte, check_bind_ok, clear, Bool.not_false, require_true,
      require_pos (decide_eq_true value.1), check_pure, settle_reply, value.2, CorrectionEngine.setBypass_eq, ← hline,
      ← hviewer]
    rfl
  · refine (exec_settled rfl h (by simp) rfl rfl).trans ?_
    simp only [ownSetBypass, read8_byte, check_bind_ok, clear, Bool.not_false, require_true,
      require_neg (decide_eq_false (show ¬ value.toNat ≤ 1 by omega)), check_bind_error, settle_error]

/-! ## The settings of the Convergence Unit (R65, R67, R87) -/

theorem mqLimit_eq (n : Nat) : mqLimit n = decide (61 ≤ n) := rfl

/-- Settles O36. -/
theorem convergenceSettingsAreSetAndRead : Obligations.ConvergenceSettingsAreSetAndRead := by
  intro s p level tag
  refine ⟨fun h clear => ⟨fun d plane r g b grid inside hr hg hb => ?_, fun payload hlen grid => ?_,
    fun d plane rest grid small outside hlen => ?_, fun k limit tol settle hk hl ht hs => ?_⟩, fun h => ?_⟩
  · refine (exec_settled rfl h (by simp) rfl rfl).trans ?_
    simp only [ownSetTargets, List.append_assoc, read8_u8 plane.val (by omega), read16_u16 r hr, read16_u16 g hg,
      read16_u16_end b hb, check_bind_ok, clear, Bool.not_false, require_true, grid, requireSome_some,
      require_pos (decide_eq_true inside), index?_val, check_pure, settle_reply]
  · refine (exec_settled rfl h (by omega) (by simpa [Gate.lengthHolds] using hlen) rfl).trans ?_
    obtain ⟨_, _, e1, h1⟩ := read8_of_length hlen
    obtain ⟨_, _, e2, h2⟩ := read16_of_length h1
    obtain ⟨_, _, e3, h3⟩ := read16_of_length h2
    obtain ⟨_, _, e4, -⟩ := read16_of_length h3
    simp only [ownSetTargets, e1, e2, e3, e4, check_bind_ok, clear, Bool.not_false, require_true, grid, requireSome_none,
      check_bind_error, settle_error]
  · refine (exec_settled rfl h (by simp [hlen]) (by simp [Gate.lengthHolds, hlen]) rfl).trans ?_
    obtain ⟨_, _, e2, h2⟩ := read16_of_length hlen
    obtain ⟨_, _, e3, h3⟩ := read16_of_length h2
    obtain ⟨_, _, e4, -⟩ := read16_of_length h3
    simp only [ownSetTargets, read8_u8 plane small, e2, e3, e4, check_bind_ok, clear, Bool.not_false, require_true, grid,
      requireSome_some, require_neg (decide_eq_false (Nat.not_lt.mpr outside)), check_bind_error, settle_error]
  · refine (exec_settled rfl h (by simp) rfl rfl).trans ?_
    simp only [ownSetConvergence, List.append_assoc, read16_u16 k hk, read16_u16 limit hl, read16_u16 tol ht,
      read8_u8_end settle hs, check_bind_ok, clear, Bool.not_false, require_true, check_pure, settle_reply]
    rfl
  · refine (exec_settled rfl h (by simp) rfl rfl).trans ?_
    rw [ownReadConvergence, settle_reply, convergencePayload, LoopParameters.bytes, mqLimit_eq]
    simp only [Rgb.toList, List.flatMap_cons, List.flatMap_nil, List.append_nil, List.append_assoc]

/-! ## Patterns (R91, R94, R106) -/

theorem source?_number (x : Source) : source? x.number = some x := by cases x <;> rfl

theorem patternKind?_number (k : PatternKind) : patternKind? k.number = some k := by cases k <;> rfl

theorem source?_eq_none {n : Nat} (h : 2 ≤ n) : source? n = none := by
  match n with
  | n + 2 => rfl

theorem patternKind?_eq_none {n : Nat} (h : 2 ≤ n) : patternKind? n = none := by
  match n with
  | n + 2 => rfl

theorem channelSet?_eq_none {n : Nat} (h : n = 0 ∨ 7 < n) : channelSet? n = none := by
  unfold channelSet?
  rw [if_neg (by omega)]

/-- A kind, a level or a channel set that Show Pattern does not take (R94). -/
theorem ownShowPattern_badValue {c : Call} {s : State} {name kind code set : Nat} (hname : name < 256) (hkind : kind < 256)
    (hcode : code < 65536) (hset : set < 256) (hp : c.payload = u8 name ++ u8 kind ++ u16 code ++ u8 set)
    (clear : s.modes.shipping = false) (bad : 1 < kind ∨ 1023 < code ∨ set = 0 ∨ 7 < set) :
    ownShowPattern c s = .error (.badValue, []) := by
  simp only [ownShowPattern, hp, List.append_assoc, read8_u8 name hname, read8_u8 kind hkind, read16_u16 code hcode,
    read8_u8_end set hset, check_bind_ok, clear, Bool.not_false, require_true]
  by_cases hk : 1 < kind
  · rw [patternKind?_eq_none hk]
    rfl
  · obtain ⟨k, hk⟩ : ∃ k, patternKind? kind = some k := by
      rcases (by omega : kind = 0 ∨ kind = 1) with rfl | rfl
      · exact ⟨_, rfl⟩
      · exact ⟨_, rfl⟩
    simp only [hk, requireSome_some, check_bind_ok]
    by_cases hc : 1023 < code
    · rw [require_neg (decide_eq_false (Nat.not_le.mpr hc)), check_bind_error]
    · rw [require_pos (decide_eq_true (Nat.not_lt.mp hc)), check_bind_ok, channelSet?_eq_none (by omega)]
      rfl

/-- Settles O39. -/
theorem patternRequestsSetSourcePatternAndTimes : Obligations.PatternRequestsSetSourcePatternAndTimes := by
  intro s p level tag h clear
  refine ⟨fun source => ?_, fun value above => ?_, fun name kind code c hname hcode hc => ?_,
    fun name kind code set hname hkind hcode hset bad => ?_, fun settle guard hs hg => ?_⟩
  · refine (exec_settled rfl h (by simp) rfl rfl).trans ?_
    have small : source.number < 256 := by cases source <;> decide
    simp only [ownSelectSource, read8_u8_end source.number small, check_bind_ok, clear, Bool.not_false, require_true,
      source?_number, requireSome_some, check_pure, settle_reply]
  · refine (exec_settled rfl h (by simp) rfl rfl).trans ?_
    simp only [ownSelectSource, read8_byte, check_bind_ok, clear, Bool.not_false, require_true, source?_eq_none above,
      requireSome_none, check_bind_error, settle_error]
  · have hkind : kind.number < 256 := by cases kind <;> decide
    have taken : code ≤ 1023 → exec (.showPattern p (frameOf level tag
        (u8 name ++ u8 kind.number ++ u16 code ++ u8 (channelNumber c)))) s =
        .next (({ s with generator := { s.generator with stored := generatorPattern name kind code c } } : State).answered
          p tag .ok ((generatorPattern name kind code c).bytes ++ u8 s.generator.effective.number ++
            u8 s.generator.requested.number)) := fun low => by
      refine (exec_settled rfl h (by simp) rfl rfl).trans ?_
      simp only [ownShowPattern, List.append_assoc, read8_u8 name hname, read8_u8 kind.number hkind, read16_u16 code hcode,
        read8_u8_end _ (channelNumber_lt c), check_bind_ok, clear, Bool.not_false, require_true, patternKind?_number,
        requireSome_some, require_pos (decide_eq_true low), channelSet?_number c hc, check_pure, settle_reply]
    refine ⟨fun high => ?_, fun low pos => ?_, fun low zero => ?_⟩
    · refine (exec_settled rfl h (by simp) rfl rfl).trans ?_
      rw [ownShowPattern_badValue hname hkind hcode (channelNumber_lt c) rfl clear (.inr (.inl high)), settle_error]
    · rw [taken low, generatorPattern, if_neg (by omega)]
      rfl
    · subst zero
      rw [taken low]
      rfl
  · refine (exec_settled rfl h (by simp) rfl rfl).trans ?_
    rw [ownShowPattern_badValue hname hkind hcode hset rfl clear bad, settle_error]
  · refine (exec_settled rfl h (by simp) rfl rfl).trans ?_
    simp only [ownSetPatternTiming, read16_u16 settle hs, read16_u16_end guard hg, check_bind_ok, clear,
      Bool.not_false, require_true, check_pure, settle_reply]
    rfl

end Sys2Proof.Machine
end

section
/-! PROOFS. Defining and reading the grid (O14, O15). -/

namespace Sys2Proof.Machine

open Sys2Proof

/-! ## Define Grid (R16, R17) -/

/-- The payload of a Define Grid (R16). -/
def Descriptor.bytes (d : Descriptor) : List Byte :=
  u16 d.width ++ u16 d.height ++ u8 d.exponent ++ u8 d.levels.length ++ d.levels.flatMap u16

/-- The fields of a descriptor within the ranges of R16. -/
abbrev Descriptor.ranged (d : Descriptor) : Prop :=
  (640 ≤ d.width ∧ d.width ≤ 7680) ∧ (360 ≤ d.height ∧ d.height ≤ 4320) ∧ (5 ≤ d.exponent ∧ d.exponent ≤ 8) ∧
    (∀ l ∈ d.levels, l ≤ 1023)

theorem readLevels_flatMap {levels : List Nat} (h : ∀ l ∈ levels, l < 65536) :
    readLevels levels.length (levels.flatMap u16) = .ok levels := by
  induction levels with
  | nil => rfl
  | cons l levels ih =>
    simp only [List.length_cons, readLevels, List.flatMap_cons, read16_u16 l (h l (.head _)), check_bind_ok,
      ih fun x hx => h x (.tail _ hx), check_pure]

/-- The checks of Define Grid on the payload of a descriptor, in their order (R16). -/
theorem checkDefineGrid_bytes {d : Descriptor} {s : State} (hw : d.width < 65536) (hh : d.height < 65536)
    (he : d.exponent < 256) (hn : d.levels.length ≤ 125) (hl : ∀ l ∈ d.levels, l < 65536) (mode : s.modes.mode ≠ .field) :
    checkDefineGrid d.bytes s = (do
      require (decide (1 ≤ d.levels.length ∧ d.levels.length ≤ 8)) .badValue
      require s.tablesOpen .busy
      require (decide d.ranged) .badValue
      require (decide (d.levels.Pairwise (· < ·))) .badValue
      require (decide (d.triples ≤ 131072)) .capacity
      return d) := by
  have counted : (decide (1 ≤ d.levels.length) && decide (d.levels.length ≤ 8)) =
      decide (1 ≤ d.levels.length ∧ d.levels.length ≤ 8) := (Bool.decide_and ..).symm
  have ranged : (decide (640 ≤ d.width) && decide (d.width ≤ 7680) && decide (360 ≤ d.height) && decide (d.height ≤ 4320) &&
      decide (5 ≤ d.exponent) && decide (d.exponent ≤ 8) && d.levels.all (· ≤ 1023)) = decide d.ranged := by
    rw [Bool.eq_iff_iff]
    simp [Descriptor.ranged, and_assoc]
  have rising : strictlyIncreasing d.levels = decide (d.levels.Pairwise (· < ·)) := by
    rw [Bool.eq_iff_iff, strictlyIncreasing_iff, decide_eq_true_eq]
  simp only [checkDefineGrid, Descriptor.bytes, List.append_assoc, read16_u16 d.width hw, read16_u16 d.height hh,
    read8_u8 d.exponent he, read8_u8 d.levels.length (by omega), check_bind_ok, flatMap_u16_length, beq_self_eq_true,
    require_true, readLevels_flatMap hl, require_pos (bne_iff_ne.mpr mode), counted, ranged, rising]
  rfl

theorem sum_map_zero {α : Type} (l : List α) (f : α → Nat) (h : ∀ x ∈ l, f x = 0) : (l.map f).sum = 0 :=
  List.sum_eq_zero fun y hy => by
    obtain ⟨x, hx, rfl⟩ := List.mem_map.mp hy
    exact h x hx

/-- No record of a newly defined grid is CONVERGED (R15). -/
theorem GridStore.judge_define (g : GridStore) (d : Descriptor) : (g.define d).judge = false := by
  have none : countAll (g.define d).counts (·.converged) = 0 :=
    sum_map_zero _ _ fun c hc => by rw [List.eq_of_mem_replicate hc]; rfl
  simp [GridStore.judge, none, show (g.define d).descriptor = some d from rfl]

theorem State.tablesOpen_of {s : State} (save : s.saveRuns = false) (ship : s.modes.shipping = false) :
    s.tablesOpen = true := State.tablesOpen_iff.mpr ⟨save, ship⟩

/-- What Define Grid leaves (R13, R15, R17). -/
theorem State.defineGrid_eq (s : State) (d : Descriptor) :
    s.defineGrid d =
      { s with
        grid :=
          { descriptor := some d
            records := List.replicate d.triples
              { trim := ⟨0, 0, 0⟩, state := .unset, hits := ⟨0, 0, 0⟩, limit := ⟨false, false, false⟩, applied := none }
            counts := List.replicate d.levels.length
              { unset := d.knots, provisional := 0, tracking := 0, converged := 0, pinned := 0, retired := 0 }
            writeSkip := 0
            allConverged := false }
        queue := { s.queue with entries := [] }
        conv := { s.conv with readings := [], targets := Vector.replicate 8 ⟨0, 0, 0⟩ }
        store := { s.store with dirty := true }
        attention := if s.grid.allConverged then s.attention.raise .converged else s.attention } := by
  unfold State.defineGrid State.judgeConverged State.raiseIf State.setDirty
  dsimp only
  rw [GridStore.judge_define]
  rw [show (s.grid.define d).allConverged = s.grid.allConverged from rfl]
  cases s.grid.allConverged <;> rfl

theorem exec_defineGrid {s : State} {p : PortId} {level tag : Byte} {payload : List Byte} (h : s.admits p level 1)
    (hlen : payload.length ≤ 256) :
    exec (.defineGrid p (frameOf level tag payload)) s = .next (s.settle p tag
      (ownDefineGrid { port := p, level := s.effectiveLevel p level, tag := tag, payload := payload } s)) :=
  exec_settled rfl h hlen rfl rfl

theorem ownDefineGrid_error {c : Call} {s : State} {e : Status × List Byte} (h : checkDefineGrid c.payload s = .error e) :
    ownDefineGrid c s = .error e := by
  rw [ownDefineGrid, h, check_bind_error]

theorem Descriptor.bytes_length (d : Descriptor) (hn : d.levels.length ≤ 125) : d.bytes.length ≤ 256 := by
  simp only [Descriptor.bytes, List.length_append, u16_length, u8_length, flatMap_u16_length]
  omega

/-- Settles O14. -/
theorem defineGridBuildsAnUnsetGridOrRefuses : Obligations.DefineGridBuildsAnUnsetGridOrRefuses := by
  refine ⟨fun s p level tag d h save ship sound => ?_, fun s p level tag d h hw hh he hn hl => ?_,
    fun s p level tag h => ⟨fun payload short => ?_, fun width height exponent count levels hw hh he hc hlen hne => ?_⟩⟩
  · obtain ⟨hw, hh, he, hn, hl, rising, capacity⟩ := sound
    have small : d.levels.length ≤ 125 := by omega
    have mode := (admits_one h.2.2).1
    refine (exec_defineGrid h (d.bytes_length small)).trans ?_
    have checked : checkDefineGrid d.bytes s = .ok d := by
      rw [checkDefineGrid_bytes (by omega) (by omega) (by omega) small (fun l hmem => by have := hl l hmem; omega) mode]
      rw [require_pos (decide_eq_true hn), require_pos (State.tablesOpen_of save ship),
        require_pos (decide_eq_true (show d.ranged from ⟨hw, hh, he, hl⟩)), require_pos (decide_eq_true rising),
        require_pos (decide_eq_true capacity)]
      rfl
    have owned : ∀ c : Call, c.payload = d.bytes → ownDefineGrid c s = .ok (.reply .ok
        (u16 d.columns ++ u16 d.rows ++ u16 d.knots ++ u32 d.triples ++ u16 s.queue.entries.length ++
          u8 s.conv.readings.length) (s.defineGrid d)) := fun c hc => by
      rw [ownDefineGrid, hc, checked, check_bind_ok, check_pure]
    rw [owned _ rfl, settle_reply, State.defineGrid_eq]
    rfl
  · have answer : ∀ status, checkDefineGrid d.bytes s = .error (status, []) →
        exec (.defineGrid p (frameOf level tag d.bytes)) s = .next (s.answered p tag status []) := fun status hc => by
      rw [exec_defineGrid h (d.bytes_length hn), ownDefineGrid_error hc, settle_error]
    have chain := checkDefineGrid_bytes hw hh he hn hl (admits_one h.2.2).1
    refine ⟨fun bad => answer _ ?_, fun counted bad => answer _ ?_, fun counted free bad => answer _ ?_,
      fun counted free ranged bad => answer _ ?_, fun counted free ranged rising bad => answer _ ?_⟩ <;> rw [chain]
    · rw [require_neg (decide_eq_false bad), check_bind_error]
    · have closed : s.tablesOpen = false := by
        rw [← Bool.not_eq_true, State.tablesOpen_iff]
        exact bad
      rw [require_pos (decide_eq_true counted), check_bind_ok, require_neg closed, check_bind_error]
    · rw [require_pos (decide_eq_true counted), check_bind_ok, require_pos (State.tablesOpen_of free.1 free.2),
        check_bind_ok, require_neg (decide_eq_false (show ¬ d.ranged from bad)), check_bind_error]
    · rw [require_pos (decide_eq_true counted), check_bind_ok, require_pos (State.tablesOpen_of free.1 free.2),
        check_bind_ok, require_pos (decide_eq_true (show d.ranged from ranged)), check_bind_ok,
        require_neg (decide_eq_false bad), check_bind_error]
    · rw [require_pos (decide_eq_true counted), check_bind_ok, require_pos (State.tablesOpen_of free.1 free.2),
        check_bind_ok, require_pos (decide_eq_true (show d.ranged from ranged)), check_bind_ok,
        require_pos (decide_eq_true rising), check_bind_ok, require_neg (decide_eq_false (show ¬ d.triples ≤ 131072 from Nat.not_le.mpr bad)),
        check_bind_error]
  · refine (exec_defineGrid h (by omega)).trans ?_
    have checked : checkDefineGrid payload s = .error (.badLength, []) := by
      match payload, short with
      | [], _ | [_], _ | [_, _], _ | [_, _, _], _ | [_, _, _, _], _ | [_, _, _, _, _], _ => rfl
    rw [ownDefineGrid_error checked, settle_error]
  · refine (exec_defineGrid h (by simp; omega)).trans ?_
    have checked : checkDefineGrid (u16 width ++ u16 height ++ u8 exponent ++ u8 count ++ levels) s =
        .error (.badLength, []) := by
      simp only [checkDefineGrid, List.append_assoc, read16_u16 width hw, read16_u16 height hh, read8_u8 exponent he,
        read8_u8 count hc, check_bind_ok, require_neg (beq_eq_false_iff_ne.mpr hne), check_bind_error]
    rw [ownDefineGrid_error checked, settle_error]

/-! ## Reading the grid (R18, R19, R20) -/

/-- The fields of a Read Knots (R19). -/
theorem ownReadKnots_fields {c : Call} {s : State} {plane row first count : Nat} (hp : plane < 256) (hr : row < 65536)
    (hf : first < 65536) (hc : count < 256) (payload : c.payload = u8 plane ++ u16 row ++ u16 first ++ u8 count) :
    ownReadKnots c s = (do
      let d ← requireSome s.grid.descriptor .noGrid
      require (decide ((1 ≤ count ∧ count ≤ 12) ∧ plane < d.planes)) .badValue
      require (decide (row < d.rows ∧ first + count ≤ d.columns)) .outOfGrid
      return .reply .ok (knotsPayload s d plane row first count) s) := by
  simp only [ownReadKnots, payload, List.append_assoc, read8_u8 plane hp, read16_u16 row hr, read16_u16 first hf,
    read8_u8_end count hc, check_bind_ok, Bool.decide_and]

/-- A record as Read Knots reports it, field by field (R19). -/
theorem recordPayload_eq (column : Nat) (r : KnotRecord) (n : Nat) :
    recordPayload column r n =
      u16 column ++ u8 r.state.number ++ s16 r.trim.r ++ s16 r.trim.g ++ s16 r.trim.b ++
        u8 r.hits.r ++ u8 r.hits.g ++ u8 r.hits.b ++ u8 (channelNumber r.limit) ++
        (match r.applied with
          | none => u8 0
          | some f => u8 1 ++ u32 f.toNat) ++ u16 n := by
  cases applied : r.applied <;>
    simp only [recordPayload, Rgb.toList, List.flatMap_cons, List.flatMap_nil, List.append_nil, List.append_assoc,
      applied, optional]

/-- Settles O15. -/
theorem gridIsReported : Obligations.GridIsReported := by
  intro s p level tag h
  refine ⟨fun grid => ?_, fun d grid => ?_, fun d plane row first count grid sound low high hp hr hf => ?_,
    fun plane row first count hp hr hf hc => ?_, ?_⟩
  · refine (exec_settled rfl h (by simp) rfl rfl).trans ?_
    rw [ownReadDescriptor, settle_reply, grid]
    rfl
  · refine (exec_settled rfl h (by simp) rfl rfl).trans ?_
    rw [ownReadDescriptor, settle_reply, grid]
    rfl
  · obtain ⟨columns, rows, planes⟩ := Descriptor.columns_rows_le sound
    refine (exec_settled rfl h (by simp) rfl rfl).trans ?_
    rw [ownReadKnots_fields (plane := plane) (row := row) (first := first) (count := count) (by omega) (by omega) (by omega)
      (by omega) rfl, grid, requireSome_some, check_bind_ok, require_pos (decide_eq_true ⟨⟨low, high⟩, hp⟩), check_bind_ok,
      require_pos (decide_eq_true ⟨hr, hf⟩), check_bind_ok, check_pure, settle_reply]
    unfold knotsPayload
    congr 3
    funext column
    show (match s.grid.record? d plane row column with
      | none => []
      | some r => recordPayload column r (s.queue.pendingCount column row plane)) = _
    unfold GridStore.record? Descriptor.index
    cases s.grid.records[(plane * d.rows + row) * d.columns + column]? with
    | none => rfl
    | some r =>
      dsimp only
      rewrite [recordPayload_eq, UpdateQueue.pendingCount_eq_length]
      rfl
  · refine ⟨fun grid => ?_, fun d grid => ⟨fun bad => ?_, fun counted bad => ?_⟩⟩ <;>
      refine (exec_settled rfl h (by simp) rfl rfl).trans ?_ <;>
      rw [ownReadKnots_fields hp hr hf hc rfl, grid]
    · rw [requireSome_none, check_bind_error, settle_error]
    · rw [requireSome_some, check_bind_ok, require_neg (decide_eq_false bad), check_bind_error, settle_error]
    · rw [requireSome_some, check_bind_ok, require_pos (decide_eq_true counted), check_bind_ok,
        require_neg (decide_eq_false bad), check_bind_error, settle_error]
  · refine (exec_settled rfl h (by simp) rfl rfl).trans ?_
    rw [ownReadSummary, settle_reply, summaryPayload]
    cases s.grid.descriptor <;> rfl

end Sys2Proof.Machine
end

section
/-! PROOFS. The requests that place entries: Write Knots (O16), Adjust Knot (O17), the area and the knot requests (O18). -/

namespace Sys2Proof.Machine

open Sys2Proof

/-! ## What every request that edits the grid checks -/

theorem checkEditing_clear {s : State} (clear : s.modes.shipping = false) :
    checkEditing s = requireSome s.grid.descriptor .noGrid := by
  rw [checkEditing, clear]
  rfl

theorem UpdateQueue.free_iff (q : UpdateQueue) {n : Nat} (h : 1 ≤ n) :
    n ≤ q.free ↔ q.entries.length + n ≤ 256 := by
  unfold UpdateQueue.free
  simp only [Config.updateCapacity]
  omega

theorem State.place_eq (s : State) (es : List Entry) :
    s.place es = { s with queue := { s.queue with entries := s.queue.entries ++ es } } := rfl

theorem State.place_occupancy (s : State) (es : List Entry) :
    (s.place es).occupancyBytes = u16 (s.queue.entries.length + es.length) := by
  rw [State.occupancyBytes, State.place_eq, List.length_append]

/-! ## Areas and knots (R59, R60) -/

/-- The fields of an area as Pin Area and Unpin Area carry them (R59). -/
abbrev areaBytes (c0 r0 c1 r1 planes : Nat) : List Byte := u16 c0 ++ u16 r0 ++ u16 c1 ++ u16 r1 ++ u8 planes

/-- The fields of a place as Retire Knot and Restore Knot carry them (R60). -/
abbrev placeBytes (column row : Nat) : List Byte := u16 column ++ u16 row

section Checks

variable {s : State} (clear : s.modes.shipping = false)

include clear

theorem checkArea_fields {c0 r0 c1 r1 planes : Nat} (hc0 : c0 < 65536) (hr0 : r0 < 65536) (hc1 : c1 < 65536)
    (hr1 : r1 < 65536) (hp : planes < 256) :
    checkArea (areaBytes c0 r0 c1 r1 planes) s = (do
      let d ← requireSome s.grid.descriptor .noGrid
      require (decide ((planes ≠ 0 ∧ planes < 2 ^ d.planes) ∧ c0 ≤ c1 ∧ r0 ≤ r1)) .badValue
      require (decide (c1 < d.columns ∧ r1 < d.rows)) .outOfGrid
      require (decide (s.queue.entries.length + 1 ≤ 256)) .queueFull
      return { firstColumn := c0, firstRow := r0, lastColumn := c1, lastRow := r1, planes := BitVec.ofNat 8 planes }) := by
  have test (d : Descriptor) : (planes != 0 && planes < 2 ^ d.planes && c0 ≤ c1 && r0 ≤ r1) =
      decide ((planes ≠ 0 ∧ planes < 2 ^ d.planes) ∧ c0 ≤ c1 ∧ r0 ≤ r1) := by
    rw [Bool.eq_iff_iff]
    simp [and_assoc]
  simp only [checkArea, List.append_assoc, read16_u16 c0 hc0, read16_u16 r0 hr0, read16_u16 c1 hc1, read16_u16 r1 hr1,
    read8_u8_end planes hp, check_bind_ok, checkEditing_clear clear, test, ← Bool.decide_and,
    s.queue.free_iff (Nat.le_refl 1)]

theorem checkKnot_fields {column row : Nat} (hc : column < 65536) (hr : row < 65536) :
    checkKnot (placeBytes column row) s = (do
      let d ← requireSome s.grid.descriptor .noGrid
      require (decide (column < d.columns ∧ row < d.rows)) .outOfGrid
      require (decide (s.queue.entries.length + 1 ≤ 256)) .queueFull
      return (column, row)) := by
  simp only [checkKnot, Descriptor.holds, read16_u16 column hc, read16_u16_end row hr, check_bind_ok, checkEditing_clear clear,
    ← Bool.decide_and, s.queue.free_iff (Nat.le_refl 1)]

end Checks

/-- What the checks of an area refuse, both area requests refuse. -/
theorem exec_area_refused {s : State} {p : PortId} {level tag : Byte} (h : s.admits p level 1) {payload : List Byte}
    (hlen : payload.length = 9) {status : Status} (refused : checkArea payload s = .error (status, [])) :
    exec (.pinArea p (frameOf level tag payload)) s = .next (s.answered p tag status []) ∧
      exec (.unpinArea p (frameOf level tag payload)) s = .next (s.answered p tag status []) := by
  constructor <;> refine (exec_settled rfl h (by omega) (by simp [Gate.lengthHolds, hlen]) rfl).trans ?_
  · rw [ownPinArea, refused, check_bind_error, settle_error]
  · rw [ownUnpinArea, refused, check_bind_error, settle_error]

theorem exec_area_taken {s : State} {p : PortId} {level tag : Byte} (h : s.admits p level 1) {payload : List Byte}
    (hlen : payload.length = 9) {a : Area} (taken : checkArea payload s = .ok a) :
    exec (.pinArea p (frameOf level tag payload)) s =
        .next ((s.place [.pinArea a.firstColumn a.firstRow a.lastColumn a.lastRow a.planes]).answered p tag .ok
          (u32 a.covers ++ u16 (s.queue.entries.length + 1))) ∧
      exec (.unpinArea p (frameOf level tag payload)) s =
        .next ((s.place [.unpinArea a.firstColumn a.firstRow a.lastColumn a.lastRow a.planes]).answered p tag .ok
          (u32 a.covers ++ u16 (s.queue.entries.length + 1))) := by
  constructor <;> refine (exec_settled rfl h (by omega) (by simp [Gate.lengthHolds, hlen]) rfl).trans ?_
  · rw [ownPinArea, taken, check_bind_ok, check_pure, settle_reply, State.place_occupancy]
    rfl
  · rw [ownUnpinArea, taken, check_bind_ok, check_pure, settle_reply, State.place_occupancy]
    rfl

/-- What the checks of a knot refuse, both knot requests refuse. -/
theorem exec_knot_refused {s : State} {p : PortId} {level tag : Byte} (h : s.admits p level 1) {payload : List Byte}
    (hlen : payload.length = 4) {status : Status} (refused : checkKnot payload s = .error (status, [])) :
    exec (.retireKnot p (frameOf level tag payload)) s = .next (s.answered p tag status []) ∧
      exec (.restoreKnot p (frameOf level tag payload)) s = .next (s.answered p tag status []) := by
  constructor <;> refine (exec_settled rfl h (by omega) (by simp [Gate.lengthHolds, hlen]) rfl).trans ?_
  · rw [ownRetireKnot, refused, check_bind_error, settle_error]
  · rw [ownRestoreKnot, refused, check_bind_error, settle_error]

theorem exec_knot_taken {s : State} {p : PortId} {level tag : Byte} (h : s.admits p level 1) {payload : List Byte}
    (hlen : payload.length = 4) {column row : Nat} (taken : checkKnot payload s = .ok (column, row)) :
    exec (.retireKnot p (frameOf level tag payload)) s =
        .next ((s.place [.retire column row]).answered p tag .ok (u16 (s.queue.entries.length + 1))) ∧
      exec (.restoreKnot p (frameOf level tag payload)) s =
        .next ((s.place [.restore column row]).answered p tag .ok (u16 (s.queue.entries.length + 1))) := by
  constructor <;> refine (exec_settled rfl h (by omega) (by simp [Gate.lengthHolds, hlen]) rfl).trans ?_
  · simp only [ownRetireKnot, taken, check_bind_ok, check_pure, settle_reply, State.place_occupancy]
    rfl
  · simp only [ownRestoreKnot, taken, check_bind_ok, check_pure, settle_reply, State.place_occupancy]
    rfl

/-- Settles O18. -/
theorem areaAndKnotRequestsPlaceAnEntry : Obligations.AreaAndKnotRequestsPlaceAnEntry := by
  refine ⟨fun s p level tag d h clear grid sound => ?_, fun s p level tag h clear => ?_⟩
  · obtain ⟨columns, rows, -⟩ := Descriptor.columns_rows_le sound
    refine ⟨fun room c0 r0 c1 r1 planes hc hr hc1 hr1 some within => ?_, fun room column row hc hr => ?_⟩
    · have named : planes.toNat ≠ 0 := fun zero => some (BitVec.eq_of_toNat_eq zero)
      have taken : checkArea (areaBytes c0 r0 c1 r1 planes.toNat) s = .ok
          { firstColumn := c0, firstRow := r0, lastColumn := c1, lastRow := r1, planes := planes } := by
        rw [checkArea_fields clear (by omega) (by omega) (by omega) (by omega) planes.isLt, grid, requireSome_some,
          check_bind_ok, require_pos (decide_eq_true ⟨⟨named, within⟩, hc, hr⟩), check_bind_ok,
          require_pos (decide_eq_true ⟨hc1, hr1⟩), check_bind_ok, require_pos (decide_eq_true (by omega)), check_bind_ok,
          check_pure, BitVec.ofNat_toNat, BitVec.setWidth_eq]
      exact exec_area_taken h rfl taken
    · refine exec_knot_taken h rfl ?_
      rw [checkKnot_fields clear (by omega) (by omega), grid, requireSome_some, check_bind_ok,
        require_pos (decide_eq_true ⟨hc, hr⟩), check_bind_ok, require_pos (decide_eq_true (by omega)), check_bind_ok,
        check_pure]
  · refine ⟨fun c0 r0 c1 r1 planes hc0 hr0 hc1 hr1 hp => ?_, fun column row hc hr => ?_⟩
    · have checks := checkArea_fields (s := s) clear hc0 hr0 hc1 hr1 hp
      refine ⟨fun grid => ?_, fun d grid => ⟨fun bad => ?_, fun shaped bad => ?_, fun shaped within full => ?_⟩⟩ <;>
        refine exec_area_refused (payload := areaBytes c0 r0 c1 r1 planes) h rfl ?_ <;> rw [checks, grid]
      · rw [requireSome_none, check_bind_error]
      · rw [requireSome_some, check_bind_ok, require_neg (decide_eq_false bad), check_bind_error]
      · rw [requireSome_some, check_bind_ok, require_pos (decide_eq_true shaped), check_bind_ok,
          require_neg (decide_eq_false bad), check_bind_error]
      · rw [requireSome_some, check_bind_ok, require_pos (decide_eq_true shaped), check_bind_ok,
          require_pos (decide_eq_true within), check_bind_ok, require_neg (decide_eq_false (by omega)), check_bind_error]
    · have checks := checkKnot_fields (s := s) clear hc hr
      refine ⟨fun grid => ?_, fun d grid => ⟨fun bad => ?_, fun within full => ?_⟩⟩ <;>
        refine exec_knot_refused (payload := placeBytes column row) h rfl ?_ <;> rw [checks, grid]
      · rw [requireSome_none, check_bind_error]
      · rw [requireSome_some, check_bind_ok, require_neg (decide_eq_false bad), check_bind_error]
      · rw [requireSome_some, check_bind_ok, require_pos (decide_eq_true within), check_bind_ok,
          require_neg (decide_eq_false (by omega)), check_bind_error]

/-! ## Values for the channels of a set -/

/-- The channel set of a number, and how many channels it names (00, "Channels"). -/
theorem channelSet?_eq_some {n : Nat} (h : 1 ≤ n ∧ n ≤ 7) :
    ∃ c, channelSet? n = some c ∧ channelCount c = ((List.range 3).filter n.testBit).length := by
  refine ⟨_, if_pos h, ?_⟩
  rw [show List.range 3 = [0, 1, 2] from rfl]
  cases h0 : n.testBit 0 <;> cases h1 : n.testBit 1 <;> cases h2 : n.testBit 2 <;>
    simp [channelCount, Rgb.toList, h0, h1, h2]

theorem channelCount_le (c : ChannelSet) : channelCount c ≤ 3 := List.length_filter_le _ _

theorem channelFields_s16_length (c : ChannelSet) (v : Rgb Int) : (channelFields s16 c v).length = 2 * channelCount c := by
  obtain ⟨r, g, b⟩ := c
  cases r <;> cases g <;> cases b <;> rfl

theorem flatMap_length_of {α : Type} {l : List α} {f : α → List Byte} {n : Nat} (h : ∀ x ∈ l, (f x).length = n) :
    (l.flatMap f).length = l.length * n := by
  rw [List.length_flatMap, List.map_congr_left h, List.map_const', List.sum_replicate, smul_eq_mul]

theorem channelCount_eq (c : ChannelSet) : channelCount c = c.r.toNat + c.g.toNat + c.b.toNat := by
  obtain ⟨r, g, b⟩ := c
  cases r <;> cases g <;> cases b <;> rfl

section Channels

variable {α : Type} {read : List Byte → Check (α × List Byte)} {field : α → List Byte} {rest : List Byte}

/-- Every field that is written is read back. -/
abbrev readsBack (read : List Byte → Check (α × List Byte)) (field : α → List Byte) (values : List α) : Prop :=
  ∀ x ∈ values, ∀ more, read (field x ++ more) = .ok (x, more)

theorem readsBack_drop {values : List α} (reads : readsBack read field values) (n : Nat) :
    readsBack read field (values.drop n) := fun x hx => reads x (List.mem_of_mem_drop hx)

/-- A channel takes the next value when it is in the set, and none when it is not. -/
theorem readChannel_takes {values : List α} (reads : readsBack read field values) {wanted : Bool}
    (enough : wanted.toNat ≤ values.length) :
    ∃ o, readChannel read wanted (values.flatMap field ++ rest) = .ok (o, (values.drop wanted.toNat).flatMap field ++ rest) := by
  cases wanted with
  | false => exact ⟨none, rfl⟩
  | true =>
    match values, enough with
    | x :: more, _ =>
      refine ⟨some x, ?_⟩
      rw [List.flatMap_cons, List.append_assoc, readChannel, if_pos rfl, reads x (by simp)]
      rfl

/-- A channel of the set for which no value is left meets what follows the values. -/
theorem readChannel_misses {values : List α} {wanted : Bool} {e : Status × List Byte} (short : values.length < wanted.toNat)
    (fails : read rest = .error e) : readChannel read wanted (values.flatMap field ++ rest) = .error e := by
  cases wanted with
  | false => cases short
  | true =>
    obtain rfl : values = [] := List.length_eq_zero_iff.mp (by simpa using short)
    rw [List.flatMap_nil, List.nil_append, readChannel, if_pos rfl, fails]

/-- With as many values as the set names channels, exactly these are read. -/
theorem readChannels_exact {values : List α} (reads : readsBack read field values) {c : ChannelSet}
    (h : values.length = channelCount c) :
    ∃ v, readChannels read c (values.flatMap field ++ rest) = .ok (v, rest) := by
  rw [channelCount_eq] at h
  obtain ⟨r, hr⟩ := readChannel_takes (rest := rest) (wanted := c.r) reads (by omega)
  have left : (values.drop c.r.toNat).length = values.length - c.r.toNat := List.length_drop
  obtain ⟨g, hg⟩ := readChannel_takes (rest := rest) (wanted := c.g) (readsBack_drop reads c.r.toNat) (by omega)
  have left' : ((values.drop c.r.toNat).drop c.g.toNat).length = (values.drop c.r.toNat).length - c.g.toNat :=
    List.length_drop
  obtain ⟨b, hb⟩ := readChannel_takes (rest := rest) (wanted := c.b)
    (readsBack_drop (readsBack_drop reads c.r.toNat) c.g.toNat) (by omega)
  have none_left : ((values.drop c.r.toNat).drop c.g.toNat).drop c.b.toNat = [] := by
    rw [← List.length_eq_zero_iff, List.length_drop]
    omega
  refine ⟨{ r := r, g := g, b := b }, ?_⟩
  simp only [readChannels, hr, hg, hb, check_bind_ok, check_pure, none_left, List.flatMap_nil, List.nil_append]

/-- With fewer values than the set names channels, reading meets what follows them. -/
theorem readChannels_error {values : List α} (reads : readsBack read field values) {c : ChannelSet} {e : Status × List Byte}
    (h : values.length < channelCount c) (fails : read rest = .error e) :
    readChannels read c (values.flatMap field ++ rest) = .error e := by
  rw [channelCount_eq] at h
  unfold readChannels
  by_cases short : values.length < c.r.toNat
  · rw [readChannel_misses short fails, check_bind_error]
  obtain ⟨r, hr⟩ := readChannel_takes (rest := rest) reads (Nat.not_lt.mp short)
  have left := readsBack_drop reads c.r.toNat
  rw [hr, check_bind_ok]
  by_cases short' : (values.drop c.r.toNat).length < c.g.toNat
  · simp only [readChannel_misses short' fails, check_bind_error]
  obtain ⟨g, hg⟩ := readChannel_takes (rest := rest) left (Nat.not_lt.mp short')
  have length_left : (values.drop c.r.toNat).length = values.length - c.r.toNat := List.length_drop
  have last : ((values.drop c.r.toNat).drop c.g.toNat).length < c.b.toNat := by
    rw [List.length_drop]
    omega
  simp only [hg, check_bind_ok, readChannel_misses last fails, check_bind_error]

end Channels

/-! ## Write Knots (R54, R55) -/

/-- The fields of a Write Knots before its values (R54). -/
abbrev runBytes (row first count plane set : Nat) : List Byte := u16 row ++ u16 first ++ u8 count ++ u8 plane ++ u8 set

theorem checkWriteKnots_fields {s : State} (clear : s.modes.shipping = false) {row first count plane set : Nat}
    (hr : row < 65536) (hf : first < 65536) (hc : count < 256) (hp : plane < 256) (hs : set < 256) (values : List Byte) :
    checkWriteKnots (runBytes row first count plane set ++ values) s = (do
      let d ← requireSome s.grid.descriptor .noGrid
      require (decide (1 ≤ count ∧ count ≤ 16)) .badValue
      require (decide (plane < d.planes)) .badValue
      let channels ← requireSome (channelSet? set) .badValue
      require (values.length == 2 * (count * channelCount channels)) .badLength
      require (decide (row < d.rows ∧ first + count ≤ d.columns)) .outOfGrid
      require (decide (count ≤ s.queue.free)) .queueFull
      return { row := row, first := first, count := count, plane := plane, channels := channels, values := values }) := by
  simp only [checkWriteKnots, List.append_assoc, read16_u16 row hr, read16_u16 first hf, read8_u8 count hc,
    read8_u8 plane hp, read8_u8 set hs, check_bind_ok, checkEditing_clear clear, Bool.decide_and]

theorem exec_writeKnots_refused {s : State} {p : PortId} {level tag : Byte} (h : s.admits p level 1) {payload : List Byte}
    (hlen : payload.length ≤ 256) {status : Status} (refused : checkWriteKnots payload s = .error (status, [])) :
    exec (.writeKnots p (frameOf level tag payload)) s = .next (s.answered p tag status []) := by
  refine (exec_settled rfl h hlen rfl rfl).trans ?_
  rw [ownWriteKnots, refused, check_bind_error, settle_error]

/-- The values of a run, as a Write Knots carries them (R54). -/
theorem readRun_fields (c : ChannelSet) {values : List (Rgb Int)}
    (h : ∀ v ∈ values, everyChannel (fun x : Int => -32768 ≤ x ∧ x ≤ 32767) v) :
    readRun c values.length (values.flatMap (channelFields s16 c)) = .ok (values.map (carried c)) := by
  induction values with
  | nil => rfl
  | cons v values ih =>
    obtain ⟨hr, hg, hb⟩ := h v (by simp)
    rw [List.length_cons, List.flatMap_cons, readRun,
      readChannels_fields readInt16 s16 c v _ ⟨readInt16_s16 _ hr, readInt16_s16 _ hg, readInt16_s16 _ hb⟩, check_bind_ok]
    simp only [ih (fun v hv => h v (by simp [hv])), check_bind_ok, check_pure, List.map_cons]

theorem map_saturate_carried (c : ChannelSet) (v : Rgb Int) :
    (carried c v).map (Option.map saturate) = carried c (v.map (fun x => max (-8192) (min 8191 x))) := by
  obtain ⟨r, g, b⟩ := c
  cases r <;> cases g <;> cases b <;> rfl

/-- The entries of a run (R55). -/
theorem writeEntries_carried (row plane first : Nat) (c : ChannelSet) (values : List (Rgb Int)) :
    writeEntries row plane first (values.map (carried c)) = values.mapIdx (fun k v =>
      Entry.write (first + k) row plane (carried c (v.map (fun x => max (-8192) (min 8191 x))))) := by
  induction values generalizing first with
  | nil => rfl
  | cons v values ih =>
    rw [List.map_cons, writeEntries, ih, List.mapIdx_cons, map_saturate_carried]
    simp only [Nat.add_assoc, Nat.add_comm 1, Nat.add_zero]

theorem saturatedCount_carried (c : ChannelSet) (values : List (Rgb Int)) :
    saturatedCount (values.map (carried c)) =
      (values.map (fun v => ((carried c v).present.filter (fun x => x < -8192 || 8191 < x)).length)).sum := by
  have test : (fun x : Int => saturate x != x) = fun x => x < -8192 || 8191 < x := by
    funext x
    rw [Bool.eq_iff_iff, bne_iff_ne, ne_eq, saturate_eq_self_iff]
    simp only [trimInRange, Bool.or_eq_true, decide_eq_true_eq]
    omega
  simp only [saturatedCount, List.map_map, Function.comp_def, test, List.countP_eq_length_filter]

/-- Settles O16. -/
theorem writeKnotsPlacesARun : Obligations.WriteKnotsPlacesARun := by
  refine ⟨fun s p level tag d row first plane c values h clear grid sound some low high hp hr hf room inRange => ?_,
    fun s p level tag row first count plane set values h clear hr hf hc hp hs hlen => ?_⟩
  · obtain ⟨columns, rows, planes⟩ := Descriptor.columns_rows_le sound
    have hbytes : (values.flatMap (channelFields s16 c)).length = values.length * (2 * channelCount c) :=
      flatMap_length_of fun v _ => channelFields_s16_length c v
    have few := channelCount_le c
    have short : values.length * (2 * channelCount c) ≤ 16 * 6 := Nat.mul_le_mul high (by omega)
    have taken : checkWriteKnots (runBytes row first values.length plane (channelNumber c) ++
        values.flatMap (channelFields s16 c)) s = .ok
          { row := row, first := first, count := values.length, plane := plane, channels := c,
            values := values.flatMap (channelFields s16 c) } := by
      rw [checkWriteKnots_fields clear (by omega) (by omega) (by omega) (by omega) (channelNumber_lt c), grid,
        requireSome_some, check_bind_ok, require_pos (decide_eq_true ⟨low, high⟩), check_bind_ok,
        require_pos (decide_eq_true hp), check_bind_ok, channelSet?_number c some, requireSome_some, check_bind_ok,
        require_pos (beq_iff_eq.mpr (by rw [hbytes]; ring)), check_bind_ok, require_pos (decide_eq_true ⟨hr, hf⟩),
        check_bind_ok, require_pos (decide_eq_true ((s.queue.free_iff low).mpr room)), check_bind_ok, check_pure]
    refine (exec_settled rfl h (by simp [hbytes]; omega) rfl rfl).trans ?_
    have owned (x : Call) (e : x.payload = runBytes row first values.length plane (channelNumber c) ++
        values.flatMap (channelFields s16 c)) : ownWriteKnots x s =
          .ok (.reply .ok (u8 values.length ++ u8 (saturatedCount (values.map (carried c))) ++
            (s.place (writeEntries row plane first (values.map (carried c)))).occupancyBytes)
            (s.place (writeEntries row plane first (values.map (carried c))))) := by
      rw [ownWriteKnots, e, taken, check_bind_ok, readRun_fields c inRange, check_bind_ok, check_pure]
    rw [owned _ rfl, settle_reply, State.place_occupancy, writeEntries_carried, saturatedCount_carried, List.length_mapIdx]
    rfl
  · have checks := checkWriteKnots_fields (s := s) clear hr hf hc hp hs values
    have answers : ∀ status, checkWriteKnots (runBytes row first count plane set ++ values) s = .error (status, []) →
        exec (.writeKnots p (frameOf level tag (runBytes row first count plane set ++ values))) s =
          .next (s.answered p tag status []) := fun _ => exec_writeKnots_refused h (by simp; omega)
    refine ⟨fun grid => answers _ ?_, fun d grid => ⟨fun bad => answers _ ?_, fun counted bad => answers _ ?_,
      fun counted exact bad => answers _ ?_, fun counted exact within full => answers _ ?_⟩⟩ <;> rw [checks, grid]
    · rw [requireSome_none, check_bind_error]
    · rw [requireSome_some, check_bind_ok]
      by_cases hcount : 1 ≤ count ∧ count ≤ 16
      case neg => rw [require_neg (decide_eq_false hcount), check_bind_error]
      rw [require_pos (decide_eq_true hcount), check_bind_ok]
      by_cases hplane : plane < d.planes
      case neg => rw [require_neg (decide_eq_false hplane), check_bind_error]
      have hset : set = 0 ∨ 7 < set := by
        by_contra named
        exact bad ⟨hcount, by omega, hplane⟩
      rw [require_pos (decide_eq_true hplane), check_bind_ok, channelSet?_eq_none hset, requireSome_none, check_bind_error]
    all_goals
      obtain ⟨hcount, hset, hplane⟩ := counted
      obtain ⟨c, found, number⟩ := channelSet?_eq_some hset
      rw [requireSome_some, check_bind_ok, require_pos (decide_eq_true hcount), check_bind_ok,
        require_pos (decide_eq_true hplane), check_bind_ok, found, requireSome_some, check_bind_ok, number]
    · rw [require_neg (beq_eq_false_iff_ne.mpr bad), check_bind_error]
    · rw [require_pos (beq_iff_eq.mpr exact), check_bind_ok, require_neg (decide_eq_false bad), check_bind_error]
    · rw [require_pos (beq_iff_eq.mpr exact), check_bind_ok, require_pos (decide_eq_true within), check_bind_ok,
        require_neg (decide_eq_false (mt (s.queue.free_iff hcount.1).mp (Nat.not_le.mpr full))), check_bind_error]

/-! ## Adjust Knot (R56, R57) -/

/-- What follows the place of an Adjust Knot (R56): the channel set and the deltas. -/
def adjustDeltas (d : Descriptor) (s : State) (column row plane : Nat) (payload : List Byte) : Check Entry := do
  let (number, payload) ← read8 payload
  let channels ← requireSome (channelSet? number) .badValue
  let (deltas, payload) ← readChannels readDelta channels payload
  require payload.isEmpty .badLength
  require (d.holds column row) .outOfGrid
  require (s.queue.hold == .released) .held
  require (1 ≤ s.queue.free) .queueFull
  return .adjust column row plane deltas

section Adjust

variable {s : State} (clear : s.modes.shipping = false) {d : Descriptor} (grid : s.grid.descriptor = some d)
  {column row plane : Nat} (hc : column < 65536) (hr : row < 65536) (hp : plane < 256)

include clear grid

theorem checkAdjustKnot_short {payload : List Byte} (short : payload.length ≤ 4) :
    checkAdjustKnot payload s = .error (.badLength, []) := by
  rw [checkAdjustKnot, checkEditing_clear clear, grid, requireSome_some, check_bind_ok]
  match payload, short with
  | [], _ | [_], _ | [_, _], _ | [_, _, _], _ | [_, _, _, _], _ => rfl

include hc hr hp

theorem checkAdjustKnot_place (rest : List Byte) :
    checkAdjustKnot (u16 column ++ u16 row ++ u8 plane ++ rest) s = (do
      require (decide (plane < d.planes)) .badValue
      adjustDeltas d s column row plane rest) := by
  simp only [checkAdjustKnot, checkEditing_clear clear, grid, requireSome_some, check_bind_ok, List.append_assoc,
    read16_u16 column hc, read16_u16 row hr, read8_u8 plane hp]
  rfl

end Adjust

/-- One delta in its range is read back (R56). -/
theorem readDelta_s16 {x : Int} (h : -16383 ≤ x ∧ x ≤ 16383) (rest : List Byte) : readDelta (s16 x ++ rest) = .ok (x, rest) := by
  rw [readDelta, readInt16_s16 x ⟨by omega, by omega⟩, check_bind_ok]
  simp only [require_pos (show (decide (-16383 ≤ x) && decide (x ≤ 16383)) = true by simpa using h), check_bind_ok, check_pure]

theorem readDelta_badValue {x : Int} (low : -32768 ≤ x) (high : x ≤ 32767) (out : x < -16383 ∨ 16383 < x) (rest : List Byte) :
    readDelta (s16 x ++ rest) = .error (.badValue, []) := by
  rw [readDelta, readInt16_s16 x ⟨low, high⟩, check_bind_ok]
  simp only [require_neg (show (decide (-16383 ≤ x) && decide (x ≤ 16383)) = false by simp; omega), check_bind_error]

theorem readDelta_badLength {rest : List Byte} (short : rest.length ≤ 1) : readDelta rest = .error (.badLength, []) := by
  match rest, short with
  | [], _ | [_], _ => rfl

section Deltas

variable {s : State} {d : Descriptor} {column row plane set : Nat} (hset : set < 256)

include hset

theorem adjustDeltas_noSet (bad : set = 0 ∨ 7 < set) (rest : List Byte) :
    adjustDeltas d s column row plane (u8 set ++ rest) = .error (.badValue, []) := by
  simp only [adjustDeltas, read8_u8 set hset, check_bind_ok, channelSet?_eq_none bad, requireSome_none, check_bind_error]

variable {c : ChannelSet} (found : channelSet? set = some c) {deltas : List Int} {rest : List Byte}

include found

theorem adjustDeltas_error (h : ∀ x ∈ deltas, -16383 ≤ x ∧ x ≤ 16383) (few : deltas.length < channelCount c)
    {e : Status × List Byte} (fails : readDelta rest = .error e) :
    adjustDeltas d s column row plane (u8 set ++ (deltas.flatMap s16 ++ rest)) = .error e := by
  simp only [adjustDeltas, read8_u8 set hset, check_bind_ok, found, requireSome_some,
    readChannels_error (fun x hx => readDelta_s16 (h x hx)) few fails, check_bind_error]

/-- With its deltas read, an Adjust Knot goes on with what follows them (R56). -/
theorem adjustDeltas_read {v : Rgb (Option Int)} {bytes : List Byte}
    (read : readChannels readDelta c bytes = .ok (v, rest)) :
    adjustDeltas d s column row plane (u8 set ++ bytes) = (do
      require rest.isEmpty .badLength
      require (decide (column < d.columns ∧ row < d.rows)) .outOfGrid
      require (s.queue.hold == .released) .held
      require (decide (s.queue.entries.length + 1 ≤ 256)) .queueFull
      return .adjust column row plane v) := by
  simp only [adjustDeltas, read8_u8 set hset, check_bind_ok, found, requireSome_some, read, Descriptor.holds,
    ← Bool.decide_and, s.queue.free_iff (Nat.le_refl 1)]

end Deltas

/-- Settles O17. -/
theorem adjustKnotPlacesAnEntryAndWaits : Obligations.AdjustKnotPlacesAnEntryAndWaits := by
  refine ⟨fun s p level tag d column row plane c deltas h clear grid sound some hp hc hr inRange => ?_,
    fun s p level tag h clear => ?_⟩
  · obtain ⟨columns, rows, planes⟩ := Descriptor.columns_rows_le sound
    have checks : checkAdjustKnot (u16 column ++ u16 row ++ u8 plane ++ u8 (channelNumber c) ++ channelFields s16 c deltas) s =
        (do
          require (s.queue.hold == .released) .held
          require (decide (s.queue.entries.length + 1 ≤ 256)) .queueFull
          return .adjust column row plane (carried c deltas)) := by
      have read := readChannels_fields readDelta s16 c deltas []
        ⟨readDelta_s16 inRange.1, readDelta_s16 inRange.2.1, readDelta_s16 inRange.2.2⟩
      rw [List.append_nil] at read
      rw [List.append_assoc (_ ++ _ ++ _), checkAdjustKnot_place clear grid (by omega) (by omega) (by omega),
        require_pos (decide_eq_true hp), check_bind_ok,
        adjustDeltas_read (channelNumber_lt c) (channelSet?_number c some) read, List.isEmpty_nil, require_true, check_bind_ok,
        require_pos (decide_eq_true ⟨hc, hr⟩), check_bind_ok]
    have few := channelCount_le c
    have settled := exec_settled (i := .adjustKnot p (frameOf level tag
      (u16 column ++ u16 row ++ u8 plane ++ u8 (channelNumber c) ++ channelFields s16 c deltas))) rfl h
      (by simp [channelFields_s16_length]; omega) rfl rfl
    refine ⟨fun hold room => settled.trans ?_, fun hold => settled.trans ?_, fun hold full => settled.trans ?_⟩ <;>
      rw [ownAdjustKnot, checks]
    · rw [require_pos (beq_iff_eq.mpr hold), check_bind_ok, require_pos (decide_eq_true (Nat.succ_le_of_lt room)), check_bind_ok, check_pure,
        check_bind_ok, check_pure, settle_wait]
      rfl
    · rw [require_neg (beq_eq_false_iff_ne.mpr hold), check_bind_error, check_bind_error, settle_error]
    · rw [require_pos (beq_iff_eq.mpr hold), check_bind_ok, require_neg (decide_eq_false (by omega)), check_bind_error,
        check_bind_error, settle_error]
  · have refuses {payload : List Byte} {status : Status} (hlen : payload.length ≤ 256)
        (refused : checkAdjustKnot payload s = .error (status, [])) :
        exec (.adjustKnot p (frameOf level tag payload)) s = .next (s.answered p tag status []) := by
      refine (exec_settled rfl h hlen rfl rfl).trans ?_
      rw [ownAdjustKnot, refused, check_bind_error, settle_error]
    refine ⟨fun grid payload hlen => refuses hlen ?_, fun d grid => ⟨fun payload short => refuses (by omega)
      (checkAdjustKnot_short clear grid short), fun column row plane hc hr hp => ?_⟩⟩
    · rw [checkAdjustKnot, checkEditing_clear clear, grid, requireSome_none, check_bind_error]
    have placed := checkAdjustKnot_place clear grid hc hr hp
    refine ⟨fun above rest hlen => refuses (by simp; omega) ?_, fun below => refuses (by simp) ?_, fun below set hset =>
      ⟨fun bad rest hlen => refuses (by simp; omega) ?_, fun low high deltas => ?_⟩⟩
    · rw [placed, require_neg (decide_eq_false (Nat.not_lt.mpr above)), check_bind_error]
    · have e := placed []
      rw [List.append_nil] at e
      rw [e, require_pos (decide_eq_true below), check_bind_ok]
      rfl
    · rw [List.append_assoc (_ ++ _ ++ _), placed, require_pos (decide_eq_true below), check_bind_ok,
        adjustDeltas_noSet hset bad]
    obtain ⟨c, found, number⟩ := channelSet?_eq_some ⟨low, high⟩
    rw [← number]
    intro fields named inRange
    have bytes : (deltas.flatMap s16).length = deltas.length * 2 := flatMap_length_of fun x _ => s16_length x
    have at_most := channelCount_le c
    have after (rest : List Byte) : checkAdjustKnot (fields ++ rest) s =
        adjustDeltas d s column row plane (u8 set ++ (deltas.flatMap s16 ++ rest)) := by
      simp only [fields]
      rw [List.append_assoc, List.append_assoc (_ ++ _ ++ _), placed, require_pos (decide_eq_true below), check_bind_ok]
    have length (rest : List Byte) : (fields ++ rest).length = 6 + deltas.length * 2 + rest.length := by
      simp only [fields, List.length_append, u16_length, u8_length, bytes]
    have reads : readsBack readDelta s16 deltas := fun x hx => readDelta_s16 (inRange x hx)
    refine ⟨fun few x rest low high out hlen => ?_, fun few rest hlen => ?_, fun exact rest more hlen => ?_,
      fun exact outside => ?_⟩
    · rw [List.append_assoc]
      refine refuses (by rw [length]; simp; omega) ?_
      rw [after, adjustDeltas_error hset found inRange few (readDelta_badValue low high out rest)]
    · refine refuses (by rw [length]; omega) ?_
      rw [after, adjustDeltas_error hset found inRange few (readDelta_badLength hlen)]
    · obtain ⟨v, read⟩ := readChannels_exact (rest := rest) reads exact
      refine refuses (by rw [length]; omega) ?_
      rw [after, adjustDeltas_read hset found read, require_neg (List.isEmpty_eq_false_iff.mpr more), check_bind_error]
    · obtain ⟨v, read⟩ := readChannels_exact (rest := []) reads exact
      rw [← List.append_nil fields]
      refine refuses (by rw [length]; simp; omega) ?_
      rw [after, adjustDeltas_read hset found read, List.isEmpty_nil, require_true, check_bind_ok,
        require_neg (decide_eq_false outside), check_bind_error]

end Sys2Proof.Machine
end

section
/-! PROOFS. The Convergence Unit: its arithmetic (O34), the examination of a reading (O38), the intake of a batch (O37). -/

namespace Sys2Proof.Machine

open Sys2Proof

/-! ## Arithmetic (R28, R83, R85) -/

theorem targetTrim_of_lit {t : Int} {m : Measurement} (lit : 0 < m.luminance) :
    targetTrim t m = (saturate (rawTargetTrim t m), saturate (rawTargetTrim t m) != rawTargetTrim t m) :=
  if_neg (Nat.ne_of_gt lit)

theorem saturate_of_low {x : Int} (h : x < -8192) : saturate x = -8192 := by
  unfold saturate clampInt
  omega

theorem saturate_of_high {x : Int} (h : 8191 < x) : saturate x = 8191 := by
  unfold saturate clampInt
  omega

/-- A target trim in the trim range is the exact one (R83). -/
theorem targetTrim_of_within {t : Int} {m : Measurement} (lit : 0 < m.luminance) (h : trimInRange (rawTargetTrim t m)) :
    targetTrim t m = (rawTargetTrim t m, false) := by
  have kept := saturate_eq_self_iff.mpr h
  rw [targetTrim_of_lit lit, kept, bne_self_eq_false]

theorem targetTrim_of_low {t : Int} {m : Measurement} (lit : 0 < m.luminance) (h : rawTargetTrim t m < -8192) :
    targetTrim t m = (-8192, true) := by
  rw [targetTrim_of_lit lit, saturate_of_low h, bne_iff_ne.mpr (ne_of_gt h)]

theorem targetTrim_of_high {t : Int} {m : Measurement} (lit : 0 < m.luminance) (h : 8191 < rawTargetTrim t m) :
    targetTrim t m = (8191, true) := by
  rw [targetTrim_of_lit lit, saturate_of_high h, bne_iff_ne.mpr (ne_of_lt h)]

theorem newHits_of_inTolerance {l : LoopParameters} {m : Measurement} {h : Nat} (within : inTolerance l m = true)
    (bound : h ≤ 15) : newHits l h m = min 15 (h + 1) := by
  rw [newHits, if_pos within]
  split <;> omega

theorem newHits_of_outOfTolerance {l : LoopParameters} {m : Measurement} {h : Nat} (out : inTolerance l m = false) :
    newHits l h m = 0 := by
  rw [newHits, out]
  rfl

/-- Settles O34. -/
theorem targetTrimsAndHitsAreComputed : Obligations.TargetTrimsAndHitsAreComputed := by
  refine ⟨fun n d pos => ?_, fun t target => rfl, fun t target luminance lit => ?_, fun l h m range bound => ?_⟩
  · have below := Int.lt_mul_ediv_self_add (x := 2 * n + d) (show 0 < 2 * d by omega)
    exact ⟨Int.mul_ediv_self_le (by omega), by rwa [mul_add, mul_one]⟩
  · intro value
    have raw : value = rawTargetTrim t { luminance := luminance, target := target } := rfl
    clear_value value
    subst raw
    exact ⟨targetTrim_of_within lit, targetTrim_of_low lit, targetTrim_of_high lit⟩
  · refine ⟨fun within => newHits_of_inTolerance (decide_eq_true within) bound,
      fun out => newHits_of_outOfTolerance (decide_eq_false (Nat.not_le.mpr out)), fun dark lit => ?_⟩
    obtain ⟨-, -, ⟨-, tolerance⟩, -⟩ := range
    refine newHits_of_outOfTolerance (decide_eq_false (Nat.not_le.mpr ?_))
    calc l.tolerance * m.target ≤ _ := Nat.mul_le_mul_right _ tolerance
      _ < ((m.target : Int) - m.luminance).natAbs * 1024 := by rw [dark]; omega

/-! ## The examination of a reading (R75 to R78, R81, R86) -/

theorem readingStale_iff (entries : List Entry) (r : KnotRecord) (q : Reading) :
    readingStale entries r q = true ↔ (∃ e ∈ entries, e.touches q.column q.row q.plane = true) ∨
      ∃ a, r.applied = some a ∧ a ≠ q.intake ∧ (a - q.intake).toNat < 2 ^ 31 := by
  rw [readingStale, Bool.or_eq_true, List.any_eq_true]
  cases r.applied <;> simp [later]

theorem KnotState.writable_eq_false_iff (x : KnotState) : x.writable = false ↔ x = .pinned ∨ x = .retired := by
  cases x <;> simp [KnotState.writable]

section Examine

variable {s : State} {q : Reading} {rest : List Reading} {r : KnotRecord}

theorem State.examine_waits (h : s.conv.readings = [] ∨ 256 ≤ s.queue.entries.length) : s.examine = s := by
  rcases h with empty | full
  · simp only [State.examine, empty]
  · have free : s.queue.free = 0 := Nat.sub_eq_zero_of_le full
    unfold State.examine
    split
    · rfl
    · rw [if_pos free]

/-- A reading is examined with the record it names (R75). -/
theorem State.examine_head {d : Descriptor} (head : s.conv.readings = q :: rest) (room : s.queue.entries.length < 256)
    (grid : s.grid.descriptor = some d) (record : s.grid.records[recordPlace d q.plane q.row q.column]? = some r) :
    s.examine = s.examineHead q rest r := by
  have free : s.queue.free ≠ 0 := Nat.sub_ne_zero_of_lt room
  have named : s.grid.record? d q.plane q.row q.column = some r := record
  simp only [State.examine, head, if_neg free, grid, named]

theorem State.examineHead_stale (h : readingStale s.queue.entries r q = true) :
    s.examineHead q rest r = { s with
      conv := { s.conv with readings := rest, stale := bump s.conv.stale }
      attention := s.attention.raise .stale } := by
  rw [State.examineHead, if_pos h, State.raiseIf, if_pos rfl]

theorem State.examineHead_ignored (fresh : readingStale s.queue.entries r q = false) (kept : r.state.writable = false) :
    s.examineHead q rest r = { s with conv := { s.conv with readings := rest, ignored := bump s.conv.ignored } } := by
  simp only [State.examineHead, fresh, kept, Bool.false_eq_true, if_false, Bool.not_false, if_true]

theorem State.examineHead_processed (fresh : readingStale s.queue.entries r q = false) (writable : r.state.writable = true) :
    s.examineHead q rest r = { s with
      conv := { s.conv with readings := rest, processed := bump s.conv.processed }
      queue := { s.queue with entries := s.queue.entries ++ [convergeEntry s.conv.parameters r q] }
      attention := s.attention.raiseIf (readingClamped r q.values) .trimLimit } := by
  simp only [State.examineHead, fresh, writable, Bool.false_eq_true, if_false, Bool.not_true]
  unfold State.raiseIf AttentionUnit.raiseIf
  split <;> rfl

end Examine

/-- The target trim of a channel, when one was clamped (R78). -/
theorem readingClamped_eq (r : KnotRecord) (v : Rgb (Option Measurement)) :
    readingClamped r v =
      ((match v.r with | none => false | some m => (targetTrim r.trim.r m).2) ||
        (match v.g with | none => false | some m => (targetTrim r.trim.g m).2) ||
        (match v.b with | none => false | some m => (targetTrim r.trim.b m).2)) := by
  simp only [readingClamped, Rgb.map2, Rgb.toList, List.any_cons, List.any_nil, Bool.or_false, id_eq, Bool.or_assoc]
  cases v.r <;> cases v.g <;> cases v.b <;> rfl

theorem carriedState_eq (n : Nat) (hits : Rgb Nat) :
    carriedState n hits = if n ≤ hits.r ∧ n ≤ hits.g ∧ n ≤ hits.b then .converged else .tracking := by
  simp only [carriedState, Rgb.toList, List.all_cons, List.all_nil, Bool.and_true, Bool.and_eq_true, decide_eq_true_eq]

/-- Settles O38. -/
theorem examinationEndsTheHeadReading : Obligations.ExaminationEndsTheHeadReading := by
  intro s supply
  have run : exec .examineReading s = .next s.examine := by
    simp only [exec, execExamineReading, supply, if_true]
  rw [run]
  refine ⟨fun waits => by rw [State.examine_waits waits], fun q rest d r head room grid record => ?_⟩
  rw [State.examine_head head room grid record]
  intro touched late counted l trim hits clamped limited newHit
  have staleness := readingStale_iff s.queue.entries r q
  have is_fresh (untouched : ¬touched) (early : ¬late) : readingStale s.queue.entries r q = false :=
    Bool.eq_false_iff.mpr fun stale => (staleness.mp stale).elim untouched early
  refine ⟨fun stale => ?_, fun untouched early kept => ?_, fun untouched early unpinned unretired => ?_⟩
  · rw [State.examineHead_stale (staleness.mpr stale)]
    rfl
  · rw [State.examineHead_ignored (is_fresh untouched early) ((KnotState.writable_eq_false_iff _).mpr kept)]
    rfl
  · have writable : r.state.writable = true := by
      rw [← Bool.not_eq_false, KnotState.writable_eq_false_iff]
      exact fun kept => kept.elim unpinned unretired
    rw [State.examineHead_processed (is_fresh untouched early) writable]
    have entry : convergeEntry l r q = .converge q.column q.row q.plane
        ⟨trim r.trim.r q.values.r, trim r.trim.g q.values.g, trim r.trim.b q.values.b⟩ newHit
        ⟨limited r.trim.r r.limit.r q.values.r, limited r.trim.g r.limit.g q.values.g, limited r.trim.b r.limit.b q.values.b⟩
        (if l.settleCount ≤ newHit.r ∧ l.settleCount ≤ newHit.g ∧ l.settleCount ≤ newHit.b then .converged
          else .tracking) := by
      have trims (t h b v) : (convergeChannel l t h b v).trim = trim t v := by cases v <;> rfl
      have counts (t h b v) : (convergeChannel l t h b v).hits = hits h v := by cases v <;> rfl
      have limits (t h b v) : (convergeChannel l t h b v).limited = limited t b v := by cases v <;> rfl
      simp only [convergeEntry, convergeRecord, Rgb.map, trims, counts, limits, carriedState_eq]
      rfl
    rw [show s.conv.parameters = l from rfl, entry]
    rw [readingClamped_eq]
    rfl

/-! ## The intake of a batch (R68 to R71, R74) -/

/-- A reading as the statements write it: column, row, channel set, luminances. -/
abbrev WrittenReading := Nat × Nat × ChannelSet × Rgb Nat

namespace WrittenReading

/-- The bytes of a reading in a batch (R68). -/
abbrev bytes (x : WrittenReading) : List Byte :=
  u16 x.1 ++ u16 x.2.1 ++ u8 (channelNumber x.2.2.1) ++ channelFields u16 x.2.2.1 x.2.2.2

/-- The reading as the checks of a batch see it. -/
def raw (x : WrittenReading) : RawReading where
  column := x.1
  row := x.2.1
  channels := x.2.2.1
  luminances := carried x.2.2.1 x.2.2.2

/-- The fields of the reading fit their widths, and its set names a channel. -/
abbrev fits (x : WrittenReading) : Prop :=
  x.1 < 65536 ∧ x.2.1 < 65536 ∧ someChannel x.2.2.1 ∧ everyChannel (fun m : Nat => m < 65536) x.2.2.2

theorem bytes_length_le (x : WrittenReading) : x.bytes.length ≤ 11 := by
  obtain ⟨column, row, ⟨r, g, b⟩, v⟩ := x
  cases r <;> cases g <;> cases b <;> simp [channelFields]

theorem flatMap_bytes_length_le (readings : List WrittenReading) : (readings.flatMap bytes).length ≤ readings.length * 11 := by
  induction readings with
  | nil => simp
  | cons x readings ih =>
    have := x.bytes_length_le
    rw [List.flatMap_cons, List.length_append, List.length_cons]
    omega

end WrittenReading

open WrittenReading

/-- Readings are read one after another (R69). -/
theorem readReadings_fields {readings : List WrittenReading} (h : ∀ x ∈ readings, x.fits) (k : Nat) (rest : List Byte) :
    readReadings (readings.length + k) (readings.flatMap bytes ++ rest) = (do
      let (more, left) ← readReadings k rest
      return (readings.map raw ++ more, left)) := by
  induction readings with
  | nil =>
    rw [List.length_nil, Nat.zero_add, List.flatMap_nil, List.nil_append]
    cases readReadings k rest <;> rfl
  | cons x readings ih =>
    obtain ⟨hc, hr, some, hv⟩ := h x (by simp)
    have fields := readChannels_fields read16 u16 x.2.2.1 x.2.2.2 (readings.flatMap bytes ++ rest)
      ⟨read16_u16 _ hv.1, read16_u16 _ hv.2.1, read16_u16 _ hv.2.2⟩
    rw [List.length_cons, Nat.add_right_comm, List.flatMap_cons, readReadings]
    simp only [List.append_assoc, read16_u16 _ hc, read16_u16 _ hr, read8_u8 _ (channelNumber_lt _), channelSet?_number _ some,
      fields, requireSome_some, check_bind_ok, ih (fun y hy => h y (by simp [hy]))]
    cases readReadings k rest <;> rfl

/-- The first reading of a batch whose set is none refuses the batch (R69). -/
theorem readReadings_noSet {column row set : Nat} (hc : column < 65536) (hr : row < 65536) (hs : set < 256)
    (bad : set = 0 ∨ 7 < set) (k : Nat) (rest : List Byte) :
    readReadings (k + 1) (u16 column ++ u16 row ++ u8 set ++ rest) = .error (.badValue, []) := by
  simp only [readReadings, List.append_assoc, read16_u16 column hc, read16_u16 row hr, read8_u8 set hs, check_bind_ok,
    channelSet?_eq_none bad, requireSome_none, check_bind_error]

theorem readBatch_fields {d : Descriptor} {name plane count : Nat} (hn : name < 256) (hp : plane < 256) (hc : count < 256)
    (rest : List Byte) :
    readBatch d (u8 name ++ u8 plane ++ u8 count ++ rest) = (do
      require (decide (plane < d.planes)) .badValue
      require (decide (1 ≤ count ∧ count ≤ 16)) .badValue
      let (readings, left) ← readReadings count rest
      require left.isEmpty .badLength
      return { tag := name, plane := plane, readings := readings }) := by
  simp only [readBatch, List.append_assoc, read8_u8 name hn, read8_u8 plane hp, read8_u8 count hc, check_bind_ok,
    ← Bool.decide_and]

/-- The channels of the reading are channels of the pattern that is held (R69). -/
theorem channelsWithin_iff (a b : ChannelSet) : channelsWithin a b = true ↔
    (a.r = true → b.r = true) ∧ (a.g = true → b.g = true) ∧ (a.b = true → b.b = true) := by
  simp [channelsWithin, Rgb.map2, Rgb.toList, imp_iff_not_or]

/-- Every channel of the reading has a target (R69). -/
theorem channelsAimed_iff (a : ChannelSet) (t : Rgb Nat) :
    ((a.map2 (fun c t => !c || t != 0) t).toList).all id = true ↔
      (a.r = true → t.r ≠ 0) ∧ (a.g = true → t.g ≠ 0) ∧ (a.b = true → t.b ≠ 0) := by
  simp [Rgb.map2, Rgb.toList, imp_iff_not_or]

theorem ConvergenceUnit.target_val (u : ConvergenceUnit) (plane : Fin 8) : u.target plane = u.targets[plane] := by
  rw [ConvergenceUnit.target, index?_val]

section Each

variable {status : Status} {holds : RawReading → Bool}

theorem requireEach_ok {readings : List WrittenReading} (h : ∀ x ∈ readings, holds x.raw = true) :
    requireEach (readings.map raw) status holds = .ok () := by
  have none_fails : (readings.map raw).findIdx? (fun r => !holds r) = none := by
    simpa [List.findIdx?_eq_none_iff] using h
  rw [requireEach, none_fails]

/-- The index of the first reading that fails a check is the number of those before it (R69). -/
theorem requireEach_first {before after : List WrittenReading} {x : WrittenReading} (h : ∀ y ∈ before, holds y.raw = true)
    (fails : holds x.raw = false) :
    requireEach ((before ++ x :: after).map raw) status holds = .error (status, u8 before.length) := by
  have first : ((before ++ x :: after).map raw).findIdx? (fun r => !holds r) = some before.length := by
    have none_fails : (before.map raw).findIdx? (fun r => !holds r) = none := by
      simpa [List.findIdx?_eq_none_iff] using h
    rw [List.map_append, List.findIdx?_append, none_fails, List.map_cons, List.findIdx?_cons, fails]
    simp
  rw [requireEach, first]

end Each

/-- The checks that follow the reading of a batch (R69). -/
theorem checkSubmitReadings_of_batch {s : State} (clear : s.modes.shipping = false) {d : Descriptor}
    (grid : s.grid.descriptor = some d) {payload : List Byte} {b : Batch} (batch : readBatch d payload = .ok b) :
    checkSubmitReadings payload s = (do
      let held ← requireSome s.detector.state.heldPattern? .stalePattern
      require (held.tag == b.tag && held.kind == .flat) .stalePattern
      require (d.levels[b.plane]? == some held.level) .levelMismatch
      requireEach b.readings .levelMismatch (fun r => channelsWithin r.channels held.channels)
      requireEach b.readings .noTarget
        (fun r => ((r.channels.map2 (fun c t => !c || t != 0) (s.conv.target b.plane)).toList).all id)
      requireEach b.readings .outOfGrid (fun r => d.holds r.column r.row)
      require (b.readings.length ≤ Config.readingCapacity - s.conv.readings.length) .queueFull
      return b) := by
  rw [checkSubmitReadings, checkEditing_clear clear, grid, requireSome_some, check_bind_ok, batch, check_bind_ok]

theorem exec_submitReadings_refused {s : State} {p : PortId} {level tag : Byte} (h : s.admits p level 1) {payload : List Byte}
    (hlen : payload.length ≤ 256) {status : Status} {fields : List Byte}
    (refused : checkSubmitReadings payload s = .error (status, fields)) :
    exec (.submitReadings p (frameOf level tag payload)) s = .next (s.answered p tag status fields) := by
  refine (exec_settled rfl h hlen rfl rfl).trans ?_
  rw [ownSubmitReadings, refused, check_bind_error, settle_error]

/-- A batch of sound readings, read (R68, R69). -/
theorem readBatch_batch {d : Descriptor} {name plane : Nat} {readings : List WrittenReading} (hn : name < 256)
    (hp : plane < 256) (inside : plane < d.planes) (low : 1 ≤ readings.length) (high : readings.length ≤ 16)
    (h : ∀ x ∈ readings, x.fits) :
    readBatch d (u8 name ++ u8 plane ++ u8 readings.length ++ readings.flatMap bytes) =
      .ok { tag := name, plane := plane, readings := readings.map raw } := by
  have read := readReadings_fields h 0 []
  rw [Nat.add_zero, List.append_nil] at read
  rw [readBatch_fields hn hp (by omega), require_pos (decide_eq_true inside), check_bind_ok,
    require_pos (decide_eq_true ⟨low, high⟩), check_bind_ok, read]
  simp only [readReadings, check_bind_ok, check_pure, List.append_nil, List.isEmpty_nil, require_true]

/-- What the checks of a batch find in the part, when they reach it (R69). -/
theorem checkSubmitReadings_held {s : State} (clear : s.modes.shipping = false) {d : Descriptor}
    (grid : s.grid.descriptor = some d) {payload : List Byte} {name : Nat} {plane : Fin 8} {readings : List WrittenReading}
    (batch : readBatch d payload = .ok { tag := name, plane := plane, readings := readings.map raw }) {held : Pattern}
    {src : Source} {begun : FrameNumber} (state : s.detector.state = .held held src begun) (same : held.tag = name)
    (flat : held.kind = .flat) :
    checkSubmitReadings payload s = (do
      require (d.levels[plane.val]? == some held.level) .levelMismatch
      requireEach (readings.map raw) .levelMismatch (fun r => channelsWithin r.channels held.channels)
      requireEach (readings.map raw) .noTarget
        (fun r => ((r.channels.map2 (fun c t => !c || t != 0) s.conv.targets[plane]).toList).all id)
      requireEach (readings.map raw) .outOfGrid (fun r => d.holds r.column r.row)
      require (decide (readings.length ≤ 64 - s.conv.readings.length)) .queueFull
      return { tag := name, plane := plane, readings := readings.map raw }) := by
  have pattern : s.detector.state.heldPattern? = some held := by rw [state]; rfl
  have matched : (held.tag == name && held.kind == .flat) = true := by rw [same, flat]; simp
  rw [checkSubmitReadings_of_batch clear grid batch, pattern, requireSome_some, check_bind_ok, require_pos matched,
    check_bind_ok]
  simp only [ConvergenceUnit.target_val, List.length_map, Config.readingCapacity]

/-- A batch joins the tail of the Measurement Queue (R71, R74). -/
theorem State.intake_eq (s : State) (name : Nat) (plane : Fin 8) (readings : List WrittenReading) :
    s.intake { tag := name, plane := plane, readings := readings.map raw } =
      { s with
        conv := { s.conv with
          readings := s.conv.readings ++ readings.map (fun x =>
            { column := x.1, row := x.2.1, plane := plane,
              values := (carried x.2.2.1 x.2.2.2).map2
                (fun m target => m.map (fun y => { luminance := y, target := target })) s.conv.targets[plane],
              intake := s.timing.number }) }
        attention :=
          if 61 ≤ s.conv.readings.length + readings.length ∧ s.conv.readings.length < 61
          then s.attention.raise .mqLimit else s.attention } := by
  unfold State.intake State.raiseIf
  simp only [List.map_map, ConvergenceUnit.target_val, List.length_append, List.length_map, mqLimit_eq, Bool.and_eq_true,
    decide_eq_true_eq, Bool.not_eq_true', decide_eq_false_iff_not, Nat.not_le]
  split <;> rfl

theorem checkSubmitReadings_badBatch {s : State} (clear : s.modes.shipping = false) {d : Descriptor}
    (grid : s.grid.descriptor = some d) {payload : List Byte} {e : Status × List Byte} (batch : readBatch d payload = .error e) :
    checkSubmitReadings payload s = .error e := by
  rw [checkSubmitReadings, checkEditing_clear clear, grid, requireSome_some, check_bind_ok, batch, check_bind_error]

/-- A batch of at most sixteen readings fits a frame. -/
theorem batchBytes_length_le (name plane count : Nat) {readings : List WrittenReading} (h : readings.length ≤ 16) :
    (u8 name ++ u8 plane ++ u8 count ++ readings.flatMap bytes).length ≤ 179 := by
  have := flatMap_bytes_length_le readings
  simp only [List.length_append, u8_length]
  omega

/-- Settles O37. -/
theorem submitReadingsJoinTheQueue : Obligations.SubmitReadingsJoinTheQueue := by
  refine ⟨fun s p level tag d plane held src begun readings h clear grid sound inside state small flat same low high room
    good => ?_, fun s p level tag h clear => ⟨fun payload hlen grid => ?_,
    fun d name plane count rest grid hn hp hc hlen bad => ?_,
    fun d name plane count readings grid hn hp inside low high few fits => ?_,
    fun d name plane readings grid hn inside low high fits => ?_⟩⟩
  · obtain ⟨columns, rows, -⟩ := Descriptor.columns_rows_le sound
    have fits : ∀ x ∈ readings, WrittenReading.fits x := fun x hx => by
      obtain ⟨hc, hr, some, hv, -⟩ := good x hx
      exact ⟨by omega, by omega, some, hv⟩
    have batch := readBatch_batch (d := d) (name := held.tag) (plane := plane) small (by omega) inside low high fits
    have taken := checkSubmitReadings_held clear grid batch state rfl flat
    rw [require_pos (beq_iff_eq.mpr same), check_bind_ok, requireEach_ok, check_bind_ok, requireEach_ok, check_bind_ok,
      requireEach_ok, check_bind_ok, require_pos (decide_eq_true (by omega)), check_bind_ok, check_pure] at taken
    · refine (exec_settled rfl h ((batchBytes_length_le _ _ _ high).trans (by decide)) rfl rfl).trans ?_
      rw [ownSubmitReadings, taken, check_bind_ok, check_pure, settle_reply, State.intake_eq]
      simp only [List.length_map, List.length_append]
    · intro x hx
      obtain ⟨hc, hr, -⟩ := good x hx
      simp [Descriptor.holds, raw, hc, hr]
    · intro x hx
      obtain ⟨-, -, -, -, hr, hg, hb⟩ := good x hx
      exact (channelsAimed_iff _ _).mpr ⟨fun e => (hr e).2, fun e => (hg e).2, fun e => (hb e).2⟩
    · intro x hx
      obtain ⟨-, -, -, -, hr, hg, hb⟩ := good x hx
      exact (channelsWithin_iff _ _).mpr ⟨fun e => (hr e).1, fun e => (hg e).1, fun e => (hb e).1⟩
  · refine exec_submitReadings_refused h hlen ?_
    rw [checkSubmitReadings, checkEditing_clear clear, grid, requireSome_none, check_bind_error]
  · refine exec_submitReadings_refused h (by simp; omega) (checkSubmitReadings_badBatch clear grid ?_)
    rw [readBatch_fields hn hp hc]
    by_cases inside : plane < d.planes
    case neg => rw [require_neg (decide_eq_false inside), check_bind_error]
    rw [require_pos (decide_eq_true inside), check_bind_ok, require_neg (decide_eq_false (by omega)), check_bind_error]
  · have length := batchBytes_length_le name plane count (readings := readings) (by omega)
    have after (rest : List Byte) : readBatch d (u8 name ++ u8 plane ++ u8 count ++ readings.flatMap bytes ++ rest) = (do
        let (readings, left) ← readReadings count (readings.flatMap bytes ++ rest)
        require left.isEmpty .badLength
        return { tag := name, plane := plane, readings := readings }) := by
      rw [List.append_assoc (_ ++ _ ++ _), readBatch_fields hn hp (by omega), require_pos (decide_eq_true inside),
        check_bind_ok, require_pos (decide_eq_true ⟨low, high⟩), check_bind_ok]
    have refuses {rest : List Byte} {e : Status} (hlen : rest.length ≤ 70)
        (failed : readBatch d (u8 name ++ u8 plane ++ u8 count ++ readings.flatMap bytes ++ rest) = .error (e, [])) :
        exec (.submitReadings p (frameOf level tag (u8 name ++ u8 plane ++ u8 count ++ readings.flatMap bytes ++ rest))) s =
          .next (s.answered p tag e []) :=
      exec_submitReadings_refused h (by rw [List.length_append]; omega) (checkSubmitReadings_badBatch clear grid failed)
    refine ⟨fun more column row set rest hc hr bad hs hlen => ?_, fun more => ?_, fun exact rest extra hlen => ?_⟩
    · obtain ⟨k, rfl⟩ := Nat.exists_eq_add_of_lt more
      have place : ∀ front : List Byte, front ++ u16 column ++ u16 row ++ u8 set ++ rest =
          front ++ (u16 column ++ u16 row ++ u8 set ++ rest) := fun front => by simp only [List.append_assoc]
      rw [place]
      refine refuses (by simp; omega) ?_
      rw [after, Nat.add_assoc, readReadings_fields fits, readReadings_noSet hc hr hs bad, check_bind_error, check_bind_error]
    · obtain ⟨k, rfl⟩ := Nat.exists_eq_add_of_lt more
      rw [← List.append_nil (_ ++ readings.flatMap _)]
      refine refuses (by simp) ?_
      rw [after, Nat.add_assoc, readReadings_fields fits]
      rfl
    · subst exact
      refine refuses (by omega) ?_
      have read := readReadings_fields fits 0 rest
      rw [Nat.add_zero] at read
      rw [after, read]
      simp only [readReadings, check_bind_ok, check_pure, require_neg (List.isEmpty_eq_false_iff.mpr extra), check_bind_error]
  · have batch := readBatch_batch (d := d) (name := name) (plane := plane) hn (by omega) inside low high fits
    intro payload
    have refuses {e : Status} {fields : List Byte} (failed : checkSubmitReadings payload s = .error (e, fields)) :
        exec (.submitReadings p (frameOf level tag payload)) s = .next (s.answered p tag e fields) :=
      exec_submitReadings_refused h ((batchBytes_length_le _ _ _ high).trans (by decide)) failed
    refine ⟨fun other => refuses ?_, fun held src begun state same flat => ?_⟩
    · rw [checkSubmitReadings_of_batch clear grid batch]
      cases state : s.detector.state with
      | held held src begun =>
        have different : (held.tag == name && held.kind == .flat) = false := by
          have := other held src begun state
          rw [Bool.and_eq_false_iff, beq_eq_false_iff_ne, beq_eq_false_iff_ne]
          exact this
        simp only [Detection.heldPattern?, requireSome_some, check_bind_ok, require_neg different, check_bind_error]
      | _ => rfl
    have checks := checkSubmitReadings_held clear grid batch state same flat
    intro shown aimed inGrid matched
    have shown_iff (x : WrittenReading) : channelsWithin x.raw.channels held.channels = true ↔ shown x := channelsWithin_iff _ _
    have aimed_iff (x : WrittenReading) :
        ((x.raw.channels.map2 (fun c t => !c || t != 0) s.conv.targets[plane]).toList).all id = true ↔ aimed x :=
      channelsAimed_iff _ _
    have inGrid_iff (x : WrittenReading) : d.holds x.raw.column x.raw.row = true ↔ inGrid x := by
      rw [Descriptor.holds, Bool.and_eq_true, decide_eq_true_eq, decide_eq_true_eq]
      rfl
    refine ⟨fun bad => refuses ?_, fun before after x split level => ?_, fun level all full => refuses ?_⟩
    · rw [checks, require_neg (beq_eq_false_iff_ne.mpr bad), check_bind_error]
    · subst split
      refine ⟨fun front fails => refuses ?_, fun all front fails => refuses ?_, fun all front fails => refuses ?_⟩ <;>
        rw [checks, require_pos (beq_iff_eq.mpr level), check_bind_ok]
      · rw [requireEach_first (fun y hy => (shown_iff y).mpr (front y hy)) (Bool.eq_false_iff.mpr (mt (shown_iff x).mp fails)),
          check_bind_error]
      · rw [requireEach_ok (fun y hy => (shown_iff y).mpr (all y hy)), check_bind_ok,
          requireEach_first (fun y hy => (aimed_iff y).mpr (front y hy)) (Bool.eq_false_iff.mpr (mt (aimed_iff x).mp fails)),
          check_bind_error]
      · rw [requireEach_ok (fun y hy => (shown_iff y).mpr (all y hy).1), check_bind_ok,
          requireEach_ok (fun y hy => (aimed_iff y).mpr (all y hy).2), check_bind_ok,
          requireEach_first (fun y hy => (inGrid_iff y).mpr (front y hy)) (Bool.eq_false_iff.mpr (mt (inGrid_iff x).mp fails)),
          check_bind_error]
    · rw [checks, require_pos (beq_iff_eq.mpr level), check_bind_ok,
        requireEach_ok (fun y hy => (shown_iff y).mpr (all y hy).1), check_bind_ok,
        requireEach_ok (fun y hy => (aimed_iff y).mpr (all y hy).2.1), check_bind_ok,
        requireEach_ok (fun y hy => (inGrid_iff y).mpr (all y hy).2.2), check_bind_ok,
        require_neg (decide_eq_false (by omega)), check_bind_error]

end Sys2Proof.Machine
end

section
/-! PROOFS. The requests on region profiles: storing, retiring, erasing (O40), selecting and reporting (O41). -/

namespace Sys2Proof.Machine

open Sys2Proof

/-! ## Profiles by state and code (R116) -/

theorem Profile.isIn_eq_true_iff {p : Profile} {st : ProfileState} : p.isIn st = true ↔ ∃ x, p = .held st x := by
  cases p with
  | empty => simp [Profile.isIn]
  | held st' x =>
    rw [Profile.isIn, beq_iff_eq]
    exact ⟨fun e => ⟨x, by rw [e]⟩, fun ⟨_, e⟩ => (Profile.held.inj e).1⟩

theorem Profile.isIn_eq_false_iff {p : Profile} {st : ProfileState} : p.isIn st = false ↔ ∀ x, p ≠ .held st x := by
  rw [← Bool.not_eq_true, Profile.isIn_eq_true_iff, not_exists]

theorem Profile.carries_eq_false_iff {p : Profile} {code : Nat} :
    p.carries code = false ↔ ∀ st x, p = .held st x → x.code ≠ code := by
  cases p with
  | empty => simp [Profile.carries]
  | held st' x =>
    rw [Profile.carries, beq_eq_false_iff_ne]
    exact ⟨fun other _ _ e => by rw [← (Profile.held.inj e).2]; exact other, fun h => h st' x rfl⟩

/-- The profile that carries a code, when none of a lower index does (R116). -/
theorem RegionTable.find?_eq_some {t : RegionTable} {i : Fin 8} {st : ProfileState} {x : Region}
    (h : t.profiles[i] = .held st x)
    (least : ∀ j : Fin 8, j < i → ∀ st' y, t.profiles[j] = .held st' y → y.code ≠ x.code) : t.find? x.code = some i :=
  findIndex?_eq_some _ _ i (by rw [h]; exact beq_self_eq_true _) fun j hj => Profile.carries_eq_false_iff.mpr (least j hj)

theorem RegionTable.find?_eq_none {t : RegionTable} {code : Nat}
    (h : ∀ (j : Fin 8) st y, t.profiles[j] = .held st y → y.code ≠ code) : t.find? code = none :=
  findIndex?_eq_none _ _ fun j => Profile.carries_eq_false_iff.mpr (h j)

theorem RegionTable.carriedElsewhere_of {t : RegionTable} {i j : Fin 8} {st : ProfileState} {x : Region} (other : j ≠ i)
    (h : t.profiles[j] = .held st x) : t.carriedElsewhere i x.code = true := by
  refine List.any_eq_true.mpr ⟨j, List.mem_finRange j, ?_⟩
  rw [h, Bool.and_eq_true, bne_iff_ne]
  exact ⟨other, beq_self_eq_true _⟩

theorem codeInRange_of {code : Nat} (low : 1 ≤ code) (high : code ≤ 999) : codeInRange code = true := by
  simp [codeInRange, low, high]

theorem codeInRange_eq_false {code : Nat} (bad : code < 1 ∨ 999 < code) : codeInRange code = false := by
  simp only [codeInRange, Bool.and_eq_false_iff, decide_eq_false_iff_not]
  omega

theorem State.tablesOpen_eq_false {s : State} (h : ¬(s.saveRuns = false ∧ s.modes.shipping = false)) :
    s.tablesOpen = false := by
  rwa [← Bool.not_eq_true, State.tablesOpen_iff]

theorem index?_of {n i : Nat} (h : i < n) : index? n i = some ⟨i, h⟩ := dif_pos h

theorem family?_number (f : Family) : family? f.number = some f := by cases f <;> rfl

theorem family?_of {n : Nat} (h : n ≤ 2) : ∃ f, family? n = some f := by
  match n, h with
  | 0, _ => exact ⟨_, rfl⟩
  | 1, _ => exact ⟨_, rfl⟩
  | 2, _ => exact ⟨_, rfl⟩

theorem family?_eq_none {n : Nat} (h : 2 < n) : family? n = none := by
  match n, h with
  | _ + 3, _ => rfl

/-! ## Store Region (R117) -/

/-- The fields of a Store Region (R117). -/
abbrev regionBytes (index code family ceiling allowance flag : Nat) : List Byte :=
  u8 index ++ u16 code ++ u8 family ++ u16 ceiling ++ u8 allowance ++ u8 flag

/-- The checks of a Store Region once its index is a profile's (R117). -/
def checkStored (s : State) (i : Fin 8) (code family ceiling allowance flag : Nat) : Check (Fin 8 × Region) := do
  require (codeInRange code) .badValue
  let family ← requireSome (family? family) .badValue
  require (allowance ≤ 3 && flag ≤ 1) .badValue
  require s.tablesOpen .busy
  require (!s.regions.profiles[i].isIn .active) .active
  require (s.regions.selection != some i) .selected
  require (!s.regions.profiles[i].isIn .retired) .retired
  require (!s.regions.carriedElsewhere i code) .duplicate
  return (i, { code := code, family := family, ceiling := clampNat 512 1023 ceiling,
               allowsContent := allowance.testBit 0, allowsPlatform := allowance.testBit 1,
               viewerBypass := flag == 0 })

theorem checkStoreRegion_fields {s : State} {index code family ceiling allowance flag : Nat} (hi : index < 256)
    (hc : code < 65536) (hf : family < 256) (hl : ceiling < 65536) (ha : allowance < 256) (hg : flag < 256) :
    checkStoreRegion (regionBytes index code family ceiling allowance flag) s = (do
      let i ← requireSome (index? 8 index) .badValue
      checkStored s i code family ceiling allowance flag) := by
  simp only [checkStoreRegion, List.append_assoc, read8_u8 index hi, read16_u16 code hc, read8_u8 family hf,
    read16_u16 ceiling hl, read8_u8 allowance ha, read8_u8_end flag hg, check_bind_ok]
  rfl

section Stored

variable {s : State} {i : Fin 8} {code family ceiling allowance flag : Nat}

theorem checkStored_badValue
    (bad : ¬((1 ≤ code ∧ code ≤ 999) ∧ family ≤ 2 ∧ allowance ≤ 3 ∧ flag ≤ 1)) :
    checkStored s i code family ceiling allowance flag = .error (.badValue, []) := by
  unfold checkStored
  by_cases hcode : 1 ≤ code ∧ code ≤ 999
  case neg => rw [require_neg (codeInRange_eq_false (by omega)), check_bind_error]
  rw [require_pos (codeInRange_of hcode.1 hcode.2), check_bind_ok]
  by_cases hfamily : family ≤ 2
  case neg => rw [family?_eq_none (Nat.not_le.mp hfamily), requireSome_none, check_bind_error]
  obtain ⟨f, found⟩ := family?_of hfamily
  have wrong : (decide (allowance ≤ 3) && decide (flag ≤ 1)) = false := by
    rw [← Bool.decide_and]
    exact decide_eq_false fun right => bad ⟨hcode, hfamily, right⟩
  rw [found, requireSome_some, check_bind_ok, require_neg wrong, check_bind_error]

/-- The checks of a Store Region that follow those of its values (R117). -/
theorem checkStored_ranged {f : Family} (low : 1 ≤ code) (high : code ≤ 999) (found : family? family = some f)
    (ha : allowance ≤ 3) (hg : flag ≤ 1) :
    checkStored s i code family ceiling allowance flag = (do
      require s.tablesOpen .busy
      require (!s.regions.profiles[i].isIn .active) .active
      require (s.regions.selection != some i) .selected
      require (!s.regions.profiles[i].isIn .retired) .retired
      require (!s.regions.carriedElsewhere i code) .duplicate
      return (i, { code := code, family := f, ceiling := clampNat 512 1023 ceiling,
                   allowsContent := allowance.testBit 0, allowsPlatform := allowance.testBit 1,
                   viewerBypass := flag == 0 })) := by
  unfold checkStored
  rw [require_pos (codeInRange_of low high), check_bind_ok, found, requireSome_some, check_bind_ok,
    require_pos (by simp [ha, hg]), check_bind_ok]

end Stored

/-! ## What the other requests on profiles check -/

section Named

variable {c : Call} {s : State} {code : Nat} (payload : c.payload = u16 code) (hc : code < 65536)

include payload hc

theorem ownRetireRegion_named :
    ownRetireRegion c s = (do
      require (codeInRange code) .badValue
      require s.tablesOpen .busy
      let i ← requireSome (s.regions.find? code) .notFound
      require (!s.regions.profiles[i].isIn .active) .active
      require (s.regions.selection != some i) .selected
      require (!s.regions.profiles[i].isIn .retired) .retired
      return .reply .ok (u8 i ++ u16 code) (s.withRegions (s.regions.put i (s.regions.profiles[i].moveTo .retired)))) := by
  rw [ownRetireRegion, payload, read16_u16_end code hc, check_bind_ok]

theorem ownSelectRegion_named :
    ownSelectRegion c s = (do
      require (codeInRange code) .badValue
      require s.tablesOpen .busy
      let i ← requireSome (s.regions.find? code) .notFound
      require (!s.regions.profiles[i].isIn .retired) .retired
      return .reply .ok (optional u16 ((s.regions.select i).active?.map (·.code)) ++
        optional u16 (s.regions.select i).pendingCode?) { s with regions := s.regions.select i }) := by
  rw [ownSelectRegion, payload, read16_u16_end code hc, check_bind_ok]

theorem ownLookUpRegion_named :
    ownLookUpRegion c s = (do
      require (codeInRange code) .badValue
      let i ← requireSome (s.regions.find? code) .notFound
      return .reply .ok
        (u8 i ++ s.regions.profiles[i].bytes ++ truthByte .lookUpPending (s.regions.selection == some i)) s) := by
  rw [ownLookUpRegion, payload, read16_u16_end code hc, check_bind_ok]

end Named

theorem ownEraseRegion_indexed {c : Call} {s : State} {index : Nat} (payload : c.payload = u8 index) (hi : index < 256) :
    ownEraseRegion c s = (do
      let i ← requireSome (index? 8 index) .badValue
      require s.tablesOpen .busy
      require (!s.regions.profiles[i].isIn .active) .active
      require (s.regions.selection != some i) .selected
      return .reply .ok (u8 i)
        (if s.regions.profiles[i] = .empty then s else s.withRegions (s.regions.put i .empty))) := by
  rw [ownEraseRegion, payload, read8_u8_end index hi, check_bind_ok]

/-- The permissions of a region as a number (R116; log 7). -/
theorem allowance_bits (content platform : Bool) :
    let n := (if content then 1 else 0) + (if platform then 2 else 0)
    n ≤ 3 ∧ n.testBit 0 = content ∧ n.testBit 1 = platform := by
  cases content <;> cases platform <;> decide

/-- Settles O40. -/
theorem regionRequestsChangeProfiles : Obligations.RegionRequestsChangeProfiles := by
  refine ⟨fun s p level tag i h save ship selected => ?_, fun s p level tag h => ⟨?_, ?_, ?_⟩, fun s p level tag code h hc => ?_⟩
  · have isOpen := State.tablesOpen_of save ship
    have unselected : (s.regions.selection != some i) = true := bne_iff_ne.mpr selected
    refine ⟨fun code ceiling family content platform viewer low high hl state unique => ?_,
      fun x stored low high least => ?_, fun empty => ?_, fun st x held passive => ?_⟩
    · intro region
      obtain ⟨ha, hcontent, hplatform⟩ := allowance_bits content platform
      have inactive (st : ProfileState) (other : st ≠ .stored) : s.regions.profiles[i].isIn st = false := by
        rw [Profile.isIn_eq_false_iff]
        rintro x held
        rcases state with empty | ⟨y, stored⟩
        · rw [empty] at held; cases held
        · rw [stored] at held; exact other (Profile.held.inj held).1.symm
      have once : s.regions.carriedElsewhere i code = false := by
        rw [RegionTable.carriedElsewhere_eq_false]
        exact fun j hj => Profile.carries_eq_false_iff.mpr (unique j hj)
      have hfamily : family.number < 256 := by cases family <;> decide
      have hflag : (if viewer then 0 else 1 : Nat) ≤ 1 := by cases viewer <;> decide
      have flag : ((if viewer then 0 else 1 : Nat) == 0) = viewer := by cases viewer <;> rfl
      have permit : ([if viewer then 0 else 1] : List Byte) = u8 (if viewer then 0 else 1) := by cases viewer <;> rfl
      have checked : checkStoreRegion (regionBytes i code family.number ceiling
          ((if content then 1 else 0) + (if platform then 2 else 0)) (if viewer then 0 else 1)) s = .ok (i, region) := by
        rw [checkStoreRegion_fields (by omega) (by omega) hfamily hl (by omega) (by omega), index?_val, requireSome_some,
          check_bind_ok, checkStored_ranged low high (family?_number family) ha hflag]
        simp only [isOpen, inactive .active nofun, inactive .retired nofun, unselected, once, Bool.not_false, require_true,
          check_bind_ok, check_pure, hcontent, hplatform, flag]
        rfl
      rw [permit]
      refine (exec_settled rfl h (by simp) rfl rfl).trans ?_
      rewrite [ownStoreRegion, checked, check_bind_ok]
      cases viewer <;> rfl
    · refine (exec_settled rfl h (by simp) rfl rfl).trans ?_
      rw [ownRetireRegion_named rfl (by omega)]
      simp only [codeInRange_of low high, isOpen, RegionTable.find?_eq_some stored least, stored, unselected, Profile.isIn,
        require_true, requireSome_some, check_bind_ok, check_pure]
      rfl
    · refine (exec_settled rfl h (by simp) rfl rfl).trans ?_
      rw [ownEraseRegion_indexed rfl (by omega), index?_val]
      simp only [isOpen, empty, unselected, Profile.isIn, Bool.not_false, require_true, requireSome_some, check_bind_ok,
        check_pure, settle_reply, if_true]
    · have inactive : (st == ProfileState.active) = false := beq_eq_false_iff_ne.mpr passive
      refine (exec_settled rfl h (by simp) rfl rfl).trans ?_
      rw [ownEraseRegion_indexed rfl (by omega), index?_val]
      simp only [isOpen, held, unselected, Profile.isIn, inactive, Bool.not_false, require_true, requireSome_some,
        check_bind_ok, check_pure, settle_reply, reduceCtorEq, if_false]
      rfl
  · intro index code family ceiling allowance flag hi hc hf hl ha hg answer ranged
    have checks := checkStoreRegion_fields (s := s) hi hc hf hl ha hg
    have refuses {e : Status} (refused : checkStoreRegion (regionBytes index code family ceiling allowance flag) s =
        .error (e, [])) : answer e := by
      refine (exec_settled rfl h (by simp) rfl rfl).trans ?_
      rw [ownStoreRegion, refused, check_bind_error, settle_error]
    refine ⟨fun bad => refuses ?_, fun good busy => refuses ?_, fun good free i same => ?_⟩
    · rw [checks]
      by_cases indexed : index ≤ 7
      · rw [index?_of (Nat.lt_succ_of_le indexed), requireSome_some, check_bind_ok,
          checkStored_badValue fun rest => bad ⟨indexed, rest⟩]
      · rw [index?_none (Nat.not_le.mp indexed), requireSome_none, check_bind_error]
    · obtain ⟨indexed, hcode, hfamily, hallowance, hflag⟩ := good
      obtain ⟨f, found⟩ := family?_of hfamily
      rw [checks, index?_of (Nat.lt_succ_of_le indexed), requireSome_some, check_bind_ok,
        checkStored_ranged hcode.1 hcode.2 found hallowance hflag, require_neg (State.tablesOpen_eq_false busy),
        check_bind_error]
    · subst same
      obtain ⟨-, hcode, hfamily, hallowance, hflag⟩ := good
      obtain ⟨f, found⟩ := family?_of hfamily
      rw [index?_val, requireSome_some, check_bind_ok, checkStored_ranged hcode.1 hcode.2 found hallowance hflag,
        require_pos (State.tablesOpen_of free.1 free.2), check_bind_ok] at checks
      refine ⟨fun x active => refuses ?_, fun passive selected => refuses ?_, fun x retired unselected => refuses ?_,
        fun passive kept unselected j st x other held same => refuses ?_⟩ <;> rw [checks]
      · rw [active]
        rfl
      · simp only [Profile.isIn_eq_false_iff.mpr passive, selected, Bool.not_false, require_true, check_bind_ok,
          bne_self_eq_false, require_false, check_bind_error]
      · simp only [retired, Profile.isIn, bne_iff_ne.mpr unselected, require_true, check_bind_ok]
        rfl
      · subst same
        simp only [Profile.isIn_eq_false_iff.mpr passive, Profile.isIn_eq_false_iff.mpr kept, bne_iff_ne.mpr unselected,
          RegionTable.carriedElsewhere_of other held, Bool.not_false, Bool.not_true, require_true, require_false,
          check_bind_ok, check_bind_error]
  · intro code hc
    have settled := exec_settled (i := .retireRegion p (frameOf level tag (u16 code))) rfl h (by simp) rfl rfl
    rw [ownRetireRegion_named rfl hc] at settled
    refine ⟨fun bad => ?_, fun low high busy => ?_, fun low high free => ⟨fun unknown => ?_, fun i st x held same least => ?_⟩⟩
    · exact settled.trans (by rw [require_neg (codeInRange_eq_false bad), check_bind_error, settle_error])
    · exact settled.trans (by rw [require_pos (codeInRange_of low high), check_bind_ok,
        require_neg (State.tablesOpen_eq_false busy), check_bind_error, settle_error])
    · exact settled.trans (by rw [require_pos (codeInRange_of low high), check_bind_ok,
        require_pos (State.tablesOpen_of free.1 free.2), check_bind_ok, RegionTable.find?_eq_none unknown, requireSome_none,
        check_bind_error, settle_error])
    · subst same
      rw [require_pos (codeInRange_of low high), check_bind_ok, require_pos (State.tablesOpen_of free.1 free.2),
        check_bind_ok, RegionTable.find?_eq_some held (fun j hj st y => least j st y hj), requireSome_some, check_bind_ok, held] at settled
      refine ⟨fun active => settled.trans ?_, fun passive selected => settled.trans ?_,
        fun retired unselected => settled.trans ?_⟩
      · rw [active]
        rfl
      · simp only [Profile.isIn, beq_eq_false_iff_ne.mpr passive, selected, Bool.not_false, require_true, check_bind_ok,
          bne_self_eq_false, require_false, check_bind_error, settle_error]
      · subst retired
        simp only [Profile.isIn, bne_iff_ne.mpr unselected, require_true, check_bind_ok]
        rfl
  · intro index hi
    have settled := exec_settled (i := .eraseRegion p (frameOf level tag (u8 index))) rfl h (by simp) rfl rfl
    rw [ownEraseRegion_indexed rfl hi] at settled
    refine ⟨fun bad => settled.trans ?_, fun indexed busy => settled.trans ?_, fun free i same => ?_⟩
    · rw [index?_none bad, requireSome_none, check_bind_error, settle_error]
    · rw [index?_of (Nat.lt_succ_of_le indexed), requireSome_some, check_bind_ok,
        require_neg (State.tablesOpen_eq_false busy), check_bind_error, settle_error]
    · subst same
      rw [index?_val, requireSome_some, check_bind_ok, require_pos (State.tablesOpen_of free.1 free.2), check_bind_ok]
        at settled
      refine ⟨fun x active => settled.trans ?_, fun passive selected => settled.trans ?_⟩
      · rw [active]
        rfl
      · simp only [Profile.isIn_eq_false_iff.mpr passive, selected, Bool.not_false, require_true, check_bind_ok,
          bne_self_eq_false, require_false, check_bind_error, settle_error]
  · have settled := exec_settled (i := .selectRegion p (frameOf level tag (u16 code))) rfl h (by simp) rfl rfl
    rw [ownSelectRegion_named rfl hc] at settled
    refine ⟨fun bad => settled.trans ?_, fun low high busy => settled.trans ?_, fun low high free unknown =>
      settled.trans ?_⟩
    · rw [require_neg (codeInRange_eq_false bad), check_bind_error, settle_error]
    · rw [require_pos (codeInRange_of low high), check_bind_ok, require_neg (State.tablesOpen_eq_false busy),
        check_bind_error, settle_error]
    · rw [require_pos (codeInRange_of low high), check_bind_ok, require_pos (State.tablesOpen_of free.1 free.2),
        check_bind_ok, RegionTable.find?_eq_none unknown, requireSome_none, check_bind_error, settle_error]

/-! ## Selecting and reporting (R118, R119) -/

theorem optional_index (x : Option (Fin 8)) :
    optional (fun i : Fin 8 => u8 i) x = match x with | none => u8 0 | some i => u8 1 ++ u8 i := by
  cases x <;> rfl

/-- Settles O41. -/
theorem regionsAreSelectedAndReported : Obligations.RegionsAreSelectedAndReported := by
  intro s p level tag h
  refine ⟨fun i st x held low high least => ⟨fun near save ship => ?_, ?_⟩, fun code low high unknown => ?_,
    fun code bad hc => ?_, ?_⟩
  · have settled := exec_settled (i := .selectRegion p (frameOf level tag (u16 x.code))) rfl ⟨h.1, h.2.1, near⟩ (by simp) rfl rfl
    rw [ownSelectRegion_named rfl (by omega), require_pos (codeInRange_of low high), check_bind_ok,
      require_pos (State.tablesOpen_of save ship), check_bind_ok, RegionTable.find?_eq_some held least, requireSome_some,
      check_bind_ok, held] at settled
    refine ⟨fun stored => settled.trans ?_, fun active => settled.trans ?_, fun retired => settled.trans ?_⟩
    · subst stored
      have select : s.regions.select i = { s.regions with selection := some i } := by
        rw [RegionTable.select, held]
        rfl
      have pending : ({ s.regions with selection := some i } : RegionTable).pendingCode? = some x.code := by
        simp only [RegionTable.pendingCode?, held, Profile.region?, Option.map_some]
      rw [select, pending, optional, List.append_assoc]
      rfl
    · subst active
      have select : s.regions.select i = s.regions := by
        rw [RegionTable.select, held]
        rfl
      rw [select]
      rfl
    · subst retired
      rfl
  · refine (exec_settled rfl h (by simp) rfl rfl).trans ?_
    rw [ownLookUpRegion_named rfl (by omega), require_pos (codeInRange_of low high), check_bind_ok,
      RegionTable.find?_eq_some held least, requireSome_some, check_bind_ok, check_pure, settle_reply, held]
  · refine (exec_settled rfl h (by simp) rfl rfl).trans ?_
    rw [ownLookUpRegion_named rfl (by omega), require_pos (codeInRange_of low high), check_bind_ok,
      RegionTable.find?_eq_none unknown, requireSome_none, check_bind_error, settle_error]
  · refine (exec_settled rfl h (by simp) rfl rfl).trans ?_
    rw [ownLookUpRegion_named rfl hc, require_neg (codeInRange_eq_false bad), check_bind_error, settle_error]
  · refine (exec_settled rfl h (by simp) rfl rfl).trans ?_
    rewrite [ownReadRegions, settle_reply, optional_index]
    cases s.regions.selection <;> rfl

end Sys2Proof.Machine
end

section
/-! PROOFS. Loading a key: Begin Load and Load Chunk (O42), End Load and Abort Load (O43). -/

namespace Sys2Proof.Machine

open Sys2Proof

/-! ## Classes, lengths and levels (R126, R129, R130) -/

theorem KeyClass.number_le (c : KeyClass) : c.number ≤ 2 := by cases c <;> decide

theorem keyClass?_number (c : KeyClass) : keyClass? c.number = some c := by cases c <;> rfl

theorem KeyClass.number_eq_two_iff (c : KeyClass) : c.number = 2 ↔ c = .service := by cases c <;> decide

/-- Every number up to 2 is a key class's (R126). -/
theorem KeyClass.exists_number {n : Nat} (h : n ≤ 2) : ∃ c : KeyClass, c.number = n := by
  match n, h with
  | 0, _ => exact ⟨.content, rfl⟩
  | 1, _ => exact ⟨.platform, rfl⟩
  | 2, _ => exact ⟨.service, rfl⟩

theorem keyClass?_eq_none {n : Nat} (h : 2 < n) : keyClass? n = none := by
  match n, h with
  | _ + 3, _ => rfl

theorem keyClass?_eq_service_iff (n : Nat) : keyClass? n = some .service ↔ n = 2 := by
  match n with
  | 0 | 1 | 2 => decide
  | _ + 3 => simp [keyClass?]

/-- The check of a declared length (R130). -/
theorem lengthTest_eq (c : KeyClass) (declared : Nat) :
    (16 ≤ declared && declared ≤ 1024 && declared % 16 == 0 && (c != .service || declared == 32)) =
      decide (lengthSound c declared) := by
  rw [Bool.eq_iff_iff]
  simp [lengthSound, and_assoc, imp_iff_not_or]

/-- The level of a Begin Load by its class field (R129). -/
theorem beginLevel_fields (s : State) {slot number : Nat} (hn : number < 256) (rest : List Byte) :
    beginLevel s (u8 slot ++ u8 number ++ rest) = if number = 2 then 0 else 1 := by
  have byte : (BitVec.ofNat 8 number).toNat = number := by
    rw [BitVec.toNat_ofNat]
    omega
  simp only [u8, List.cons_append, List.nil_append, beginLevel, byte, keyClass?_eq_service_iff]

theorem toNat_ofNat_slot (i : Fin 16) : (BitVec.ofNat 8 i.val).toNat = i.val := by
  rw [BitVec.toNat_ofNat]
  omega

/-- The level of the other loading requests by the slot they name (R129). -/
theorem loadLevel_slot (s : State) (i : Fin 16) (rest : List Byte) :
    loadLevel s (u8 i ++ rest) = if s.creds.slots[i].isLoading ∧ s.creds.slots[i].class? = some .service then 0 else 1 := by
  simp only [u8, List.cons_append, List.nil_append, loadLevel, toNat_ofNat_slot, index?_val]

theorem loadLevel_loading {s : State} {i : Fin 16} {c : KeyClass} {n : Nat} {d : List Byte}
    (h : s.creds.slots[i] = .loading c n d) (rest : List Byte) :
    loadLevel s (u8 i ++ rest) = if c = .service then 0 else 1 := by
  rw [loadLevel_slot, h]
  simp [Slot.isLoading, Slot.class?]

/-- A loading request reaches its owning block at level 0, and at level 1 where its slot loads no SERVICE key (R129). -/
theorem le_loadLevel {s : State} {i : Fin 16} {level : Nat}
    (h : level = 0 ∨ (level ≤ 1 ∧ ∀ n d, s.creds.slots[i] ≠ .loading .service n d)) (rest : List Byte) :
    level ≤ loadLevel s (u8 i ++ rest) := by
  rcases h with rfl | ⟨low, other⟩
  · exact Nat.zero_le _
  · rw [loadLevel_slot, if_neg]
    · exact low
    · rintro ⟨loads, service⟩
      cases held : s.creds.slots[i] with
      | loading c n d =>
        rw [held] at service
        obtain rfl : c = .service := Option.some.inj service
        exact other n d held
      | _ => rw [held] at loads; cases loads

theorem loadLevel_noSlot (s : State) {slot : Nat} (small : slot < 256) (h : 15 < slot) (rest : List Byte) :
    loadLevel s (u8 slot ++ rest) = 1 := by
  have byte : (BitVec.ofNat 8 slot).toNat = slot := by
    rw [BitVec.toNat_ofNat]
    omega
  simp only [u8, List.cons_append, List.nil_append, loadLevel, byte, index?_none h]

theorem State.slotsOpen_of {s : State} (idle : s.store.write = .idle) (ship : s.modes.shipping = false) : s.slotsOpen = true :=
  State.slotsOpen_iff.mpr ⟨idle, ship⟩

theorem State.slotsOpen_eq_false {s : State} (h : ¬(s.store.write = .idle ∧ s.modes.shipping = false)) :
    s.slotsOpen = false := by
  rwa [← Bool.not_eq_true, State.slotsOpen_iff]

theorem Slot.isLoading_eq_false_iff {x : Slot} : x.isLoading = false ↔ x.loading? = none := by
  cases x <;> simp [Slot.isLoading, Slot.loading?]

theorem Slot.isEmpty_iff {x : Slot} : x.isEmpty = true ↔ x = .empty := by
  cases x <;> simp [Slot.isEmpty]

/-! ## Begin Load (R130, R131) -/

/-- The fields of a Begin Load (R130). -/
abbrev beginBytes (slot number declared : Nat) : List Byte := u8 slot ++ u8 number ++ u16 declared

/-- The checks of a Begin Load once its slot and class are known (R130). -/
def checkBegun (s : State) (i : Fin 16) (class_ : KeyClass) (declared : Nat) : Check (Fin 16 × KeyClass × Nat) := do
  require (decide (lengthSound class_ declared)) .badValue
  require (s.modes.mode == .factory || (s.modes.mode == .service && class_ != .service)) .mode
  require (s.creds.loading.isNone && s.slotsOpen) .busy
  require (s.creds.slots[i].isEmpty || (s.modes.mode == .service && s.creds.slots[i].isRevoked)) .slotState
  require (class_ != .service || !s.creds.serviceElsewhere i) .duplicate
  return (i, class_, declared)

theorem checkBeginLoad_fields {s : State} {slot number declared : Nat} (hs : slot < 256) (hn : number < 256)
    (hd : declared < 65536) :
    checkBeginLoad (beginBytes slot number declared) s = (do
      let i ← requireSome (index? 16 slot) .badValue
      let class_ ← requireSome (keyClass? number) .badValue
      checkBegun s i class_ declared) := by
  simp only [checkBeginLoad, List.append_assoc, read8_u8 slot hs, read8_u8 number hn, read16_u16_end declared hd,
    check_bind_ok, lengthTest_eq]
  rfl

/-- No level that the port admits meets the mode check of Begin Load (R130, R145). -/
theorem modeTest_of_admits {s : State} {p : PortId} {level : Byte} {c : KeyClass}
    (h : s.effectiveLevel p level ≤ if c = .service then 0 else 1) :
    (s.modes.mode == .factory || (s.modes.mode == .service && c != .service)) = true := by
  have low : s.effectiveLevel p level ≤ 1 := h.trans (by split <;> decide)
  obtain ⟨-, rfl⟩ := admits_one low
  unfold State.effectiveLevel at h
  cases hm : s.modes.mode with
  | factory => rfl
  | field =>
    rw [State.effectiveLevel, hm] at low
    exact absurd low (by simp [floor])
  | service =>
    cases c with
    | service => rw [hm] at h; exact absurd h (by simp [floor])
    | content => rfl
    | platform => rfl

section Begun

variable {s : State} {i : Fin 16} {c : KeyClass} {declared : Nat}

/-- What the checks of a Begin Load of a level the port admits are (R130). -/
theorem checkBegun_admitted {p : PortId} {level : Byte} (h : s.effectiveLevel p level ≤ if c = .service then 0 else 1) :
    checkBegun s i c declared = (do
      require (decide (lengthSound c declared)) .badValue
      require (decide (s.creds.loading = none ∧ s.store.write = .idle ∧ s.modes.shipping = false)) .busy
      require (decide (s.creds.slots[i] = .empty ∨ (s.modes.mode = .service ∧ s.creds.slots[i].isRevoked = true))) .slotState
      require (c != .service || !s.creds.serviceElsewhere i) .duplicate
      return (i, c, declared)) := by
  have busy : (s.creds.loading.isNone && s.slotsOpen) =
      decide (s.creds.loading = none ∧ s.store.write = .idle ∧ s.modes.shipping = false) := by
    rw [Bool.eq_iff_iff, Bool.and_eq_true, State.slotsOpen_iff, Option.isNone_iff_eq_none, decide_eq_true_eq]
  have isOpen : (s.creds.slots[i].isEmpty || (s.modes.mode == .service && s.creds.slots[i].isRevoked)) =
      decide (s.creds.slots[i] = .empty ∨ (s.modes.mode = .service ∧ s.creds.slots[i].isRevoked = true)) := by
    rw [Bool.eq_iff_iff, Bool.or_eq_true, Slot.isEmpty_iff, Bool.and_eq_true, beq_iff_eq, decide_eq_true_eq]
  rw [checkBegun, modeTest_of_admits h, busy, isOpen]
  rfl

/-- What the checks of a Begin Load come to, for a slot and a class that are some (R130). -/
theorem checkBeginLoad_admitted {p : PortId} {level : Byte} (hd : declared < 65536)
    (h : s.effectiveLevel p level ≤ if c = .service then 0 else 1) :
    checkBeginLoad (beginBytes i c.number declared) s = (do
      require (decide (lengthSound c declared)) .badValue
      require (decide (s.creds.loading = none ∧ s.store.write = .idle ∧ s.modes.shipping = false)) .busy
      require (decide (s.creds.slots[i] = .empty ∨ (s.modes.mode = .service ∧ s.creds.slots[i].isRevoked = true))) .slotState
      require (c != .service || !s.creds.serviceElsewhere i) .duplicate
      return (i, c, declared)) := by
  have hn := c.number_le
  rw [checkBeginLoad_fields (by omega) (by omega) hd, index?_val, requireSome_some, check_bind_ok, keyClass?_number,
    requireSome_some, check_bind_ok, checkBegun_admitted h]

end Begun

theorem CredentialTable.serviceElsewhere_of {t : CredentialTable} {i j : Fin 16} (other : j ≠ i)
    (h : t.slots[j].class? = some .service) : t.serviceElsewhere i = true := by
  refine List.any_eq_true.mpr ⟨j, List.mem_finRange j, ?_⟩
  rw [h, Bool.and_eq_true, bne_iff_ne]
  exact ⟨other, beq_self_eq_true _⟩

/-! ## Load Chunk (R132) -/

/-- The fields of a Load Chunk (R132). -/
abbrev chunkBytes (slot offset : Nat) (data : List Byte) : List Byte := u8 slot ++ u16 offset ++ data

theorem ownLoadChunk_fields {c : Call} {s : State} {slot offset : Nat} {data : List Byte}
    (payload : c.payload = chunkBytes slot offset data) (hs : slot < 256) (ho : offset < 65536) :
    ownLoadChunk c s = (do
      let i ← requireSome (index? 16 slot) .badValue
      require (decide (1 ≤ data.length ∧ data.length ≤ 64)) .badValue
      require s.slotsOpen .busy
      let (class_, declared, received) ← requireSome s.creds.slots[i].loading? .slotState
      require (offset == received.length) .outOfOrder (u16 received.length ++ u16 declared)
      require (received.length + data.length ≤ declared) .badValue (u16 received.length ++ u16 declared)
      return .reply .ok (u16 (received.length + data.length) ++ u16 declared)
        { s with
          creds :=
            { slots := s.creds.slots.set i (.loading class_ declared (received ++ data))
              loading := some { slot := i, gap := 0 } } }) := by
  have byte : (BitVec.ofNat 8 slot).toNat = slot := by
    rw [BitVec.toNat_ofNat]
    omega
  unfold ownLoadChunk
  rw [payload]
  simp only [chunkBytes, u8, u16, List.cons_append, List.nil_append, byte, nat16_u16 offset ho, Bool.decide_and]

/-- Settles O42. -/
theorem keysAreLoadedInChunks : Obligations.KeysAreLoadedInChunks := by
  refine ⟨fun s p level tag i c declared h idle ship => ⟨fun sound unloaded state unique => ?_,
    fun received data offset held low high ho => ?_⟩, fun s p level tag => ⟨fun slot number declared h hs hn hd => ?_,
    fun slot offset data listens ready hs ho hlen => ⟨fun level_le above => ?_, fun i same admitted => ?_⟩⟩⟩
  · have hn : c.number < 256 := by have := c.number_le; omega
    have hdeclared : declared < 65536 := by obtain ⟨⟨-, hd, -⟩, -⟩ := sound; omega
    have once : (c != .service || !s.creds.serviceElsewhere i) = true := by
      rw [Bool.or_eq_true, bne_iff_ne, Bool.not_eq_true', CredentialTable.serviceElsewhere_eq_false, or_iff_not_imp_left,
        not_not]
      exact unique
    have checked : checkBeginLoad (beginBytes i c.number declared) s = .ok (i, c, declared) := by
      rw [checkBeginLoad_admitted hdeclared h.2.2, require_pos (decide_eq_true sound), check_bind_ok,
        require_pos (decide_eq_true ⟨unloaded, idle, ship⟩), check_bind_ok, require_pos (decide_eq_true state),
        check_bind_ok, require_pos once, check_bind_ok, check_pure]
    refine (exec_settled rfl h (by simp) rfl ?_).trans ?_
    · exact (beginLevel_fields s (slot := i) hn (u16 declared)).trans (if_congr c.number_eq_two_iff rfl rfl)
    · rewrite [ownBeginLoad, checked, check_bind_ok]
      rfl
  · have settled := exec_settled (i := .loadChunk p (frameOf level tag (chunkBytes i offset data))) rfl h
      (by simp; omega) rfl (loadLevel_loading held (u16 offset ++ data))
    rw [ownLoadChunk_fields rfl (by omega) ho, index?_val, requireSome_some, check_bind_ok,
      require_pos (decide_eq_true ⟨low, high⟩), check_bind_ok, require_pos (State.slotsOpen_of idle ship), check_bind_ok,
      held] at settled
    simp only [Slot.loading?, requireSome_some, check_bind_ok] at settled
    refine ⟨fun next within => settled.trans ?_, fun other => settled.trans ?_, fun next past => settled.trans ?_⟩
    · rw [require_pos (beq_iff_eq.mpr next), check_bind_ok, require_pos (decide_eq_true within), check_bind_ok, check_pure,
        settle_reply]
    · rw [require_neg (beq_eq_false_iff_ne.mpr other), check_bind_error, settle_error]
    · rw [require_pos (beq_iff_eq.mpr next), check_bind_ok, require_neg (decide_eq_false (Nat.not_le.mpr past)),
        check_bind_error, settle_error]
  · intro answer ranged unloaded
    have checks := checkBeginLoad_fields (s := s) hs hn hd
    have refuses {e : Status} (refused : checkBeginLoad (beginBytes slot number declared) s = .error (e, [])) : answer e := by
      refine (exec_settled rfl h (by simp) rfl (beginLevel_fields s (slot := slot) hn (u16 declared))).trans ?_
      rw [ownBeginLoad, refused, check_bind_error, settle_error]
    by_cases hslot : slot ≤ 15
    case neg =>
      refine ⟨fun _ => refuses ?_, fun good => absurd good.1 hslot, fun good => absurd good.1 hslot⟩
      rw [checks, index?_none (Nat.not_le.mp hslot), requireSome_none, check_bind_error]
    by_cases hnumber : number ≤ 2
    case neg =>
      refine ⟨fun _ => refuses ?_, fun good => absurd good.2.1 hnumber, fun good => absurd good.2.1 hnumber⟩
      rw [checks, index?_of (Nat.lt_succ_of_le hslot), requireSome_some, check_bind_ok,
        keyClass?_eq_none (Nat.not_le.mp hnumber), requireSome_none, check_bind_error]
    obtain ⟨c, rfl⟩ := KeyClass.exists_number hnumber
    have level_le : s.effectiveLevel p level ≤ if c = .service then 0 else 1 := by
      rw [← if_congr c.number_eq_two_iff rfl rfl]
      exact h.2.2
    have ranged_iff : ranged ↔ lengthSound c declared := by
      rw [lengthSound, ← c.number_eq_two_iff]
      exact ⟨fun good => good.2.2, fun good => ⟨hslot, hnumber, good⟩⟩
    obtain ⟨k, rfl⟩ : ∃ k : Fin 16, k.val = slot := ⟨⟨slot, Nat.lt_succ_of_le hslot⟩, rfl⟩
    have begun := checkBeginLoad_admitted (i := k) hd level_le
    refine ⟨fun bad => refuses ?_, fun good busy => refuses ?_, fun good free i same => ?_⟩
    · rw [begun, require_neg (decide_eq_false (mt ranged_iff.mpr bad)),
        check_bind_error]
    · rw [begun, require_pos (decide_eq_true (ranged_iff.mp good)), check_bind_ok,
        require_neg (decide_eq_false busy), check_bind_error]
    · obtain rfl := Fin.ext same
      refine ⟨fun bad => refuses ?_, fun state service j other held => refuses ?_⟩ <;>
        rw [begun, require_pos (decide_eq_true (ranged_iff.mp good)), check_bind_ok, require_pos (decide_eq_true free),
          check_bind_ok]
      · rw [require_neg (decide_eq_false bad), check_bind_error]
      have twice : (c != .service || !s.creds.serviceElsewhere i) = false := by
        rw [Bool.or_eq_false_iff, bne_eq_false_iff_eq, Bool.not_eq_false']
        exact ⟨c.number_eq_two_iff.mp service, CredentialTable.serviceElsewhere_of other held⟩
      rw [require_pos (decide_eq_true state), check_bind_ok, require_neg twice, check_bind_error]
  · refine (exec_settled rfl ⟨listens, ready, level_le⟩ (by simp; omega) rfl ?_).trans ?_
    · exact loadLevel_noSlot s hs above (u16 offset ++ data)
    · rw [ownLoadChunk_fields rfl hs ho, index?_none above, requireSome_none, check_bind_error, settle_error]
  · subst same
    have settled := exec_settled (i := .loadChunk p (frameOf level tag (chunkBytes i offset data))) rfl
      ⟨listens, ready, le_loadLevel admitted (u16 offset ++ data)⟩ (by simp; omega) rfl rfl
    rw [ownLoadChunk_fields rfl hs ho, index?_val, requireSome_some, check_bind_ok] at settled
    refine ⟨fun bad => settled.trans ?_, fun low high busy => settled.trans ?_, fun low high free state => settled.trans ?_⟩
    · rw [require_neg (decide_eq_false (by omega)), check_bind_error, settle_error]
    · rw [require_pos (decide_eq_true ⟨low, high⟩), check_bind_ok, require_neg (State.slotsOpen_eq_false busy),
        check_bind_error, settle_error]
    · rw [require_pos (decide_eq_true ⟨low, high⟩), check_bind_ok, require_pos (State.slotsOpen_of free.1 free.2),
        check_bind_ok, Slot.isLoading_eq_false_iff.mp state, requireSome_none, check_bind_error, settle_error]

/-! ## End Load and Abort Load (R134, R135) -/

/-- The expected check value of an End Load, as it travels (R134). -/
def expectedBytes : Option CheckValue → List Byte
  | none => u8 0
  | some k => u8 1 ++ u32 k.toNat

theorem expectedBytes_length_le (expected : Option CheckValue) : (expectedBytes expected).length ≤ 5 := by
  cases expected <;> simp [expectedBytes]

theorem readEndLoad_fields {slot : Nat} (hs : slot < 256) (expected : Option CheckValue) :
    readEndLoad (u8 slot ++ expectedBytes expected) = .ok (slot, expected) := by
  have byte : (BitVec.ofNat 8 slot).toNat = slot := by
    rw [BitVec.toNat_ofNat]
    omega
  cases expected with
  | none =>
    show (if (0 : Byte) = 0 then Except.ok ((BitVec.ofNat 8 slot).toNat, none) else .error (.badLength, [])) = _
    rw [if_pos rfl, byte]
  | some k =>
    show (if (1 : Byte) = 1 then Except.ok ((BitVec.ofNat 8 slot).toNat, some (check32 _ _ _ _)) else .error (.badLength, [])) = _
    rw [if_pos rfl, byte, check32_u32]

/-- An End Load of another length, or with another presence byte, cannot be read (R134, R170; log 13). -/
theorem readEndLoad_badLength {payload : List Byte}
    (bad : (payload.length ≠ 2 ∧ payload.length ≠ 6) ∨
      (∃ presence : Byte, payload[1]? = some presence ∧ presence ≠ 0 ∧ presence ≠ 1)) :
    readEndLoad payload = .error (.badLength, []) := by
  unfold readEndLoad
  split
  · next slot presence =>
    obtain ⟨other, -⟩ | ⟨_, same, nonzero, -⟩ := bad
    · exact absurd rfl other
    · obtain rfl := Option.some.inj same
      rw [if_neg nonzero]
  · next slot presence a b c d =>
    obtain ⟨-, other⟩ | ⟨_, same, -, other⟩ := bad
    · exact absurd rfl other
    · obtain rfl := Option.some.inj same
      rw [if_neg other]
  · rfl

section End

variable {c : Call} {s : State}

theorem ownEndLoad_fields {slot : Nat} {expected : Option CheckValue} (payload : c.payload = u8 slot ++ expectedBytes expected)
    (hs : slot < 256) :
    ownEndLoad c s = (do
      let i ← requireSome (index? 16 slot) .badValue
      require s.slotsOpen .busy
      let (class_, declared, data) ← requireSome s.creds.slots[i].loading? .slotState
      require (data.length == declared) .badLength (u16 data.length ++ u16 declared)
      if expected.isSome && expected != some (checkValue data) then
        return .reply .checkMismatch (u32 (checkValue data).toNat) { s with creds := s.creds.finish i .empty }
      else
        return .reply .ok (u8 i ++ u8 class_.number ++ u16 declared ++ u32 (checkValue data).toNat)
          { s with creds := s.creds.finish i (.loaded class_ declared data (checkValue data)) }.setDirty) := by
  rw [ownEndLoad, payload, readEndLoad_fields hs, check_bind_ok]

theorem ownAbortLoad_fields {slot : Nat} (payload : c.payload = u8 slot) (hs : slot < 256) :
    ownAbortLoad c s = (do
      let i ← requireSome (index? 16 slot) .badValue
      require s.slotsOpen .busy
      require s.creds.slots[i].isLoading .slotState
      return .reply .ok [] { s with creds := s.creds.finish i .empty }) := by
  rw [ownAbortLoad, payload, read8_u8_end slot hs, check_bind_ok]

end End

/-- Settles O43. -/
theorem loadsEndOrAbort : Obligations.LoadsEndOrAbort := by
  refine ⟨by decide +kernel, fun s p level tag listens ready => ⟨fun zero payload hlen bad => ?_, fun slot expected hs => ?_⟩,
    fun s p level tag i c declared data h idle ship held => ⟨fun expected => ?_, ?_⟩⟩
  · refine (exec_settled rfl ⟨listens, ready, zero.trans_le (Nat.zero_le _)⟩ hlen rfl rfl).trans ?_
    rw [ownEndLoad, readEndLoad_badLength bad, check_bind_error, settle_error]
  · intro answer
    have bytes : (match expected with | none => u8 0 | some k => u8 1 ++ u32 k.toNat) = expectedBytes expected := by
      cases expected <;> rfl
    have short := expectedBytes_length_le expected
    have answers {required : Nat} {e : Status} (admitted : s.effectiveLevel p level ≤ required)
        (level_eq : ∀ rest, loadLevel s (u8 slot ++ rest) = required)
        (ended : ∀ c : Call, c.payload = u8 slot ++ expectedBytes expected → ownEndLoad c s = .error (e, []))
        (aborted : ∀ c : Call, c.payload = u8 slot → ownAbortLoad c s = .error (e, [])) : answer e := by
      constructor
      · refine Eq.trans (congrArg (fun x => exec (.endLoad p (frameOf level tag (u8 slot ++ x))) s) bytes) ?_
        refine (exec_settled rfl ⟨listens, ready, admitted⟩ (by simp; omega) rfl (level_eq (expectedBytes expected))).trans ?_
        rw [ended _ rfl, settle_error]
      · refine (exec_settled rfl ⟨listens, ready, admitted⟩ (by simp) rfl (level_eq [])).trans ?_
        rw [aborted _ rfl, settle_error]
    refine ⟨fun low above => answers low (loadLevel_noSlot s hs above) (fun c e => ?_) (fun c e => ?_), fun i same admitted =>
      ?_⟩
    · rw [ownEndLoad_fields e hs, index?_none above, requireSome_none, check_bind_error]
    · rw [ownAbortLoad_fields e hs, index?_none above, requireSome_none, check_bind_error]
    subst same
    have at_slot {e : Status} := answers (e := e) (required := loadLevel s (u8 i ++ [])) (le_loadLevel admitted [])
      (fun rest => by rw [loadLevel_slot, loadLevel_slot])
    refine ⟨fun busy => at_slot (fun c e => ?_) (fun c e => ?_), fun free state => at_slot (fun c e => ?_) (fun c e => ?_)⟩
    · rw [ownEndLoad_fields e hs, index?_val, requireSome_some, check_bind_ok, require_neg (State.slotsOpen_eq_false busy),
        check_bind_error]
    · rw [ownAbortLoad_fields e hs, index?_val, requireSome_some, check_bind_ok,
        require_neg (State.slotsOpen_eq_false busy), check_bind_error]
    · rw [ownEndLoad_fields e hs, index?_val, requireSome_some, check_bind_ok,
        require_pos (State.slotsOpen_of free.1 free.2), check_bind_ok, Slot.isLoading_eq_false_iff.mp state, requireSome_none,
        check_bind_error]
    · rw [ownAbortLoad_fields e hs, index?_val, requireSome_some, check_bind_ok,
        require_pos (State.slotsOpen_of free.1 free.2), check_bind_ok, require_neg state, check_bind_error]
  · intro request
    have bytes : (match expected with | none => u8 0 | some k => u8 1 ++ u32 k.toNat) = expectedBytes expected := by
      cases expected <;> rfl
    have short := expectedBytes_length_le expected
    have settled : exec request s = .next (s.settle p tag (do
        require (data.length == declared) .badLength (u16 data.length ++ u16 declared)
        if expected.isSome && expected != some (checkValue data) then
          return .reply .checkMismatch (u32 (checkValue data).toNat) { s with creds := s.creds.finish i .empty }
        else
          return .reply .ok (u8 i ++ u8 c.number ++ u16 declared ++ u32 (checkValue data).toNat)
            { s with creds := s.creds.finish i (.loaded c declared data (checkValue data)) }.setDirty)) := by
      refine Eq.trans (congrArg (fun x => exec (.endLoad p (frameOf level tag (u8 i ++ x))) s) bytes) ?_
      refine (exec_settled rfl h (by simp; omega) rfl (loadLevel_loading held (expectedBytes expected))).trans ?_
      rw [ownEndLoad_fields rfl (by omega), index?_val, requireSome_some, check_bind_ok,
        require_pos (State.slotsOpen_of idle ship), check_bind_ok, held]
      rfl
    refine ⟨fun complete agrees => settled.trans ?_, fun complete k known differs => settled.trans ?_,
      fun missing => settled.trans ?_⟩
    · have agreed : (expected.isSome && expected != some (checkValue data)) = false := by
        cases expected with
        | none => rfl
        | some k => rw [agrees k rfl, bne_self_eq_false, Bool.and_false]
      rw [require_pos (beq_iff_eq.mpr complete), check_bind_ok, agreed]
      rfl
    · have differing : (expected.isSome && expected != some (checkValue data)) = true := by
        rw [known, Option.isSome_some, Bool.true_and, bne_iff_ne]
        exact fun same => differs (Option.some.inj same)
      rw [require_pos (beq_iff_eq.mpr complete), check_bind_ok, if_pos differing]
      rfl
    · rw [require_neg (beq_eq_false_iff_ne.mpr missing), check_bind_error, settle_error]
  · refine (exec_settled rfl h (by simp) rfl (loadLevel_loading held [])).trans ?_
    rw [ownAbortLoad_fields rfl (by omega), index?_val, requireSome_some, check_bind_ok,
      require_pos (State.slotsOpen_of idle ship), check_bind_ok, held]
    rfl

end Sys2Proof.Machine
end

section
/-! PROOFS. Slots read, delivered and erased (O44), revoked (O45). -/

namespace Sys2Proof.Machine

open Sys2Proof

/-! ## Read Slot, Fetch Key and Erase Slot (R137, R138, R141) -/

section Slots

variable {c : Call} {s : State} {slot : Nat} (hs : slot < 256)

include hs

theorem ownReadSlot_fields (payload : c.payload = u8 slot) :
    ownReadSlot c s = (do
      let i ← requireSome (index? 16 slot) .badValue
      return .reply .ok (u8 i ++ s.creds.slots[i].report) s) := by
  rw [ownReadSlot, payload, read8_u8_end slot hs, check_bind_ok]

theorem ownFetchKey_fields {offset : Nat} (payload : c.payload = u8 slot ++ u16 offset) (ho : offset < 65536) :
    ownFetchKey c s = (do
      require (c.port == .set) .notAllowed
      let i ← requireSome (index? 16 slot) .badValue
      require (s.modes.mode != .factory) .mode
      let (class_, declared, data) ← requireSome s.creds.slots[i].deliverable? .slotState
      require (allowed s.regions.active? class_) .notAllowed
      require (offset < declared) .badValue
      return .reply .ok (u8 i ++ u16 offset ++ (data.drop offset).take (min 64 (declared - offset))) s) := by
  simp only [ownFetchKey, payload, read8_u8 slot hs, read16_u16_end offset ho, check_bind_ok]

theorem ownEraseSlot_fields (payload : c.payload = u8 slot) :
    ownEraseSlot c s = (do
      let i ← requireSome (index? 16 slot) .badValue
      require s.slotsOpen .busy
      match s.creds.slots[i] with
      | .loading .. => .error (.slotState, [])
      | .bound .. => .error (.slotState, [])
      | .empty => return .reply .ok (u8 i) s
      | _ => return .reply .ok (u8 i) { s with creds := s.creds.put i .empty }.setDirty) := by
  rewrite [ownEraseSlot, payload, read8_u8_end slot hs, check_bind_ok]
  rfl

theorem ownRevokeSlot_fields (payload : c.payload = u8 slot) :
    ownRevokeSlot c s = (do
      let i ← requireSome (index? 16 slot) .badValue
      require s.slotsOpen .busy
      require (s.creds.slots[i].class? != some .service) .notAllowed
      let (class_, declared, check) ← requireSome s.creds.slots[i].revocable? .slotState
      let s' := { s with creds := s.creds.put i (.revoked class_ declared check) }.setDirty
      match s.store.image with
      | .complete contents => return .wait (s'.beginRevocation contents c.port i)
      | _ => return .reply .ok (u8 i ++ u32 check.toNat) s') := by
  rewrite [ownRevokeSlot, payload, read8_u8_end slot hs, check_bind_ok]
  rfl

end Slots

/-- The class is one of the two that the allowance of a region lists, and the region allows it (R123). -/
theorem allowed_some_iff (r : Region) (c : KeyClass) : allowed (some r) c = true ↔
    (c = .content ∧ r.allowsContent = true) ∨ (c = .platform ∧ r.allowsPlatform = true) := by
  cases c <;> simp [allowed]

theorem Slot.deliverable?_bound {c : KeyClass} (other : c ≠ .service) (n : Nat) (d : List Byte) (k : CheckValue) :
    (Slot.bound c n d k).deliverable? = some (c, n, d) := if_neg other

theorem Slot.deliverable?_eq_none {x : Slot} (h : ∀ c n d k, c ≠ .service → x ≠ .bound c n d k) : x.deliverable? = none := by
  cases x with
  | bound c n d k => exact if_pos (by by_contra other; exact h c n d k other rfl)
  | _ => rfl

/-- Settles O44. -/
theorem slotsAreReadDeliveredAndErased : Obligations.SlotsAreReadDeliveredAndErased := by
  refine ⟨fun s p level tag i h => ⟨?_, fun c n d k offset r held ho mode active => ?_, fun near idle ship => ?_⟩,
    fun s p level tag slot offset h hs ho => ?_⟩
  · refine (exec_settled rfl h (by simp) rfl rfl).trans ?_
    rewrite [ownReadSlot_fields (by omega) rfl, index?_val, requireSome_some, check_bind_ok, check_pure, settle_reply]
    unfold Slot.report
    cases s.creds.slots[i] <;> simp only [Slot.number, List.append_assoc, List.append_nil]
  · have settled := exec_settled (i := .fetchKey p (frameOf level tag (u8 i ++ u16 offset))) rfl h (by simp) rfl rfl
    rw [ownFetchKey_fields (by omega) rfl ho] at settled
    refine ⟨fun port within class_ => settled.trans ?_, fun port class_ => settled.trans ?_,
      fun port class_ => settled.trans ?_, fun port => settled.trans ?_⟩
    · have other : c ≠ .service := by rintro rfl; simp at class_
      rw [require_pos (beq_iff_eq.mpr port), check_bind_ok, index?_val, requireSome_some, check_bind_ok,
        require_pos (bne_iff_ne.mpr mode), check_bind_ok, held, Slot.deliverable?_bound other]
      simp only [requireSome_some, check_bind_ok, active, require_pos ((allowed_some_iff r c).mpr class_),
        require_pos (decide_eq_true within), check_pure, settle_reply]
    · subst class_
      rw [require_pos (beq_iff_eq.mpr port), check_bind_ok, index?_val, requireSome_some, check_bind_ok,
        require_pos (bne_iff_ne.mpr mode), check_bind_ok, held]
      rfl
    · have other : c ≠ .service := by rintro rfl; simp at class_
      have refused : allowed (some r) c = false := by
        rcases class_ with ⟨rfl, no⟩ | ⟨rfl, no⟩ <;> exact no
      rw [require_pos (beq_iff_eq.mpr port), check_bind_ok, index?_val, requireSome_some, check_bind_ok,
        require_pos (bne_iff_ne.mpr mode), check_bind_ok, held, Slot.deliverable?_bound other]
      simp only [requireSome_some, check_bind_ok, active, require_neg refused, check_bind_error, settle_error]
    · subst port
      rfl
  · have settled := exec_settled (i := .eraseSlot p (frameOf level tag (u8 i))) rfl ⟨h.1, h.2.1, near⟩ (by simp) rfl rfl
    rw [ownEraseSlot_fields (by omega) rfl, index?_val, requireSome_some, check_bind_ok,
      require_pos (State.slotsOpen_of idle ship), check_bind_ok] at settled
    refine ⟨fun empty => settled.trans ?_, fun keeps => settled.trans ?_, fun busy => settled.trans ?_⟩
    · rw [empty]
      rfl
    · cases held : s.creds.slots[i] with
      | loaded _ _ _ _ => rfl
      | revoked _ _ _ => rfl
      | _ => simp [held, Slot.isRevoked] at keeps
    · cases held : s.creds.slots[i] with
      | bound _ _ _ _ => rfl
      | loading _ _ _ => rfl
      | _ => simp [held, Slot.isLoading] at busy
  · have settled := exec_settled (i := .fetchKey p (frameOf level tag (u8 slot ++ u16 offset))) rfl h (by simp) rfl rfl
    rw [ownFetchKey_fields hs rfl ho] at settled
    refine ⟨fun port => settled.trans ?_, fun port above => settled.trans ?_, fun port inside mode => settled.trans ?_,
      fun port mode i same => ?_, fun above => ⟨?_, fun near => ?_⟩, fun inside near busy => ?_⟩
    · subst port
      rfl
    · rw [require_pos (beq_iff_eq.mpr port), check_bind_ok, index?_none above, requireSome_none, check_bind_error,
        settle_error]
    · rw [require_pos (beq_iff_eq.mpr port), check_bind_ok, index?_of (Nat.lt_succ_of_le inside), requireSome_some,
        check_bind_ok, mode]
      rfl
    · subst same
      rw [require_pos (beq_iff_eq.mpr port), check_bind_ok, index?_val, requireSome_some, check_bind_ok,
        require_pos (bne_iff_ne.mpr mode), check_bind_ok] at settled
      refine ⟨fun none_bound => settled.trans ?_, fun c n d k other held => ?_⟩
      · rw [Slot.deliverable?_eq_none none_bound, requireSome_none, check_bind_error, settle_error]
      rw [held, Slot.deliverable?_bound other, requireSome_some, check_bind_ok] at settled
      refine ⟨fun inactive => settled.trans ?_, fun r active refused => settled.trans ?_,
        fun r active class_ past => settled.trans ?_⟩
      · rw [inactive]
        rfl
      · rw [active]
        simp only [require_neg (Bool.eq_false_iff.mpr (mt (allowed_some_iff r c).mp refused)), check_bind_error, settle_error]
      · rw [active]
        simp only [require_pos ((allowed_some_iff r c).mpr class_), check_bind_ok,
          require_neg (decide_eq_false (Nat.not_lt.mpr past)), check_bind_error, settle_error]
    · refine (exec_settled rfl h (by simp) rfl rfl).trans ?_
      rw [ownReadSlot_fields hs rfl, index?_none above, requireSome_none, check_bind_error, settle_error]
    · refine (exec_settled rfl ⟨h.1, h.2.1, near⟩ (by simp) rfl rfl).trans ?_
      rw [ownEraseSlot_fields hs rfl, index?_none above, requireSome_none, check_bind_error, settle_error]
    · refine (exec_settled rfl ⟨h.1, h.2.1, near⟩ (by simp) rfl rfl).trans ?_
      have closed : s.slotsOpen = false := State.slotsOpen_eq_false fun free => by
        rcases busy with writes | ships
        · exact writes free.1
        · rw [free.2] at ships; cases ships
      rw [ownEraseSlot_fields hs rfl, index?_of (Nat.lt_succ_of_le inside), requireSome_some, check_bind_ok,
        require_neg closed, check_bind_error, settle_error]

/-! ## Revoke Slot and the revocation write (R139, R140) -/

/-- What Revoke Slot makes of the part at once (R139). -/
def State.revokeSlot (s : State) (i : Fin 16) (c : KeyClass) (n : Nat) (k : CheckValue) : State :=
  { s with creds := s.creds.put i (.revoked c n k) }.setDirty

theorem Slot.revocable?_eq_none {x : Slot} (h : ∀ c n d k, x ≠ .loaded c n d k ∧ x ≠ .bound c n d k) :
    x.revocable? = none := by
  cases x with
  | loaded c n d k => exact absurd rfl (h c n d k).1
  | bound c n d k => exact absurd rfl (h c n d k).2
  | _ => rfl

theorem Slot.revocable?_of {x : Slot} {c : KeyClass} {n : Nat} {d : List Byte} {k : CheckValue}
    (h : x = .loaded c n d k ∨ x = .bound c n d k) : x.class? = some c ∧ x.revocable? = some (c, n, k) := by
  rcases h with rfl | rfl <;> exact ⟨rfl, rfl⟩

/-- The image entry of a key that was saved keeps its fields (R140; log 42). -/
theorem Slot.markRevoked_of_saved {x : Slot} {c : KeyClass} {n : Nat} {k : CheckValue} (draw : Nat)
    (h : (∃ d, x = .loaded c n d k ∨ x = .bound c n d k) ∨ x = .revoked c n k) : x.markRevoked draw = .revoked c n k := by
  rcases h with ⟨_, rfl | rfl⟩ | rfl <;> rfl

/-- A slot that can be revoked, revoked (R139). -/
theorem exec_revokeSlot {s : State} {p : PortId} {level tag : Byte} {i : Fin 16} {c : KeyClass} {n : Nat} {k : CheckValue}
    (h : s.admits p level 2) (idle : s.store.write = .idle) (ship : s.modes.shipping = false) (other : c ≠ .service)
    (class_ : s.creds.slots[i].class? = some c) (revocable : s.creds.slots[i].revocable? = some (c, n, k)) :
    exec (.revokeSlot p (frameOf level tag (u8 i))) s =
      .next (match s.store.image with
        | .complete x => ((s.revokeSlot i c n k).beginRevocation x p i).awaiting p tag
        | _ => (s.revokeSlot i c n k).answered p tag .ok (u8 i ++ u32 k.toNat)) := by
  have permitted : (s.creds.slots[i].class? != some .service) = true := by
    rw [class_, bne_iff_ne]
    exact fun same => other (Option.some.inj same)
  refine (exec_settled rfl h (by simp) rfl rfl).trans ?_
  rewrite [ownRevokeSlot_fields (by omega) rfl, index?_val, requireSome_some, check_bind_ok,
    require_pos (State.slotsOpen_of idle ship), check_bind_ok, require_pos permitted, check_bind_ok, revocable,
    requireSome_some, check_bind_ok]
  cases s.store.image <;> rfl

/-- Settles O45. -/
theorem revocationsReachTheImage : Obligations.RevocationsReachTheImage := by
  refine ⟨fun s p level tag i c n d k => ⟨fun h idle ship other held => ?_, fun writes held => ?_⟩,
    fun s p level tag slot h hs => ⟨fun above => ?_, fun inside busy => ?_, fun free i same => ⟨fun service => ?_,
      fun class_ kept => ?_⟩⟩, fun s result idle => ?_, fun draw => ?_⟩
  · obtain ⟨class_, revocable⟩ := Slot.revocable?_of held
    have run : exec (.revokeSlot p (frameOf level tag (u8 i))) s = _ := exec_revokeSlot h idle ship other class_ revocable
    refine ⟨fun uncomplete => run.trans ?_, fun x c' n' k' complete saved => run.trans ?_,
      fun x complete empty => run.trans ?_⟩
    · cases image : s.store.image with
      | complete x => rw [image] at uncomplete; cases uncomplete
      | blank => rfl
      | incomplete => rfl
    · rw [complete]
      have entry := Slot.markRevoked_of_saved s.book.freeCount saved
      have begun : (s.revokeSlot i c n k).beginRevocation x p i = { s.revokeSlot i c n k with
          store := { (s.revokeSlot i c n k).store with
            image := .complete (x.putSlot i (.revoked c' n' k')), write := .revoking p i }
          book := { s.book with freeCount := s.book.freeCount + 1 } } := by
        rw [← entry]
        rfl
      dsimp only
      rewrite [begun]
      rfl
    · rw [complete]
      have begun : (s.revokeSlot i c n k).beginRevocation x p i = { s.revokeSlot i c n k with
          store := { (s.revokeSlot i c n k).store with
            image := .complete (x.putSlot i (Slot.empty.markRevoked s.book.freeCount)), write := .revoking p i }
          book := { s.book with freeCount := s.book.freeCount + 1 } } := by
        rw [← empty]
        rfl
      dsimp only
      rewrite [begun]
      rfl
  · have ended (result : WriteResult) : exec (.revocationWriteCompletion result) s = .next (s.finishRevocation result p i) := by
      simp only [exec, execRevocationWriteCompletion, writes]
    have kept : s.creds.slots[i].saved = .revoked c n k ∧ s.creds.slots[i].check? = some k := by
      rw [held]
      exact ⟨rfl, rfl⟩
    refine ⟨fun x complete => (ended .ok).trans ?_, (ended .fault).trans rfl⟩
    have image : s.store.image.withEntry i s.creds.slots[i] = .complete (x.putSlot i (.revoked c n k)) := by
      rw [complete, ← kept.1]
      rfl
    simp only [State.finishRevocation, image, kept.2]
    rfl
  · refine (exec_settled rfl h (by simp) rfl rfl).trans ?_
    rw [ownRevokeSlot_fields hs rfl, index?_none above, requireSome_none, check_bind_error, settle_error]
  · refine (exec_settled rfl h (by simp) rfl rfl).trans ?_
    rw [ownRevokeSlot_fields hs rfl, index?_of (Nat.lt_succ_of_le inside), requireSome_some, check_bind_ok,
      require_neg (State.slotsOpen_eq_false busy), check_bind_error, settle_error]
  · subst same
    refine (exec_settled rfl h (by simp) rfl rfl).trans ?_
    rw [ownRevokeSlot_fields hs rfl, index?_val, requireSome_some, check_bind_ok,
      require_pos (State.slotsOpen_of free.1 free.2), check_bind_ok, service]
    rfl
  · subst same
    refine (exec_settled rfl h (by simp) rfl rfl).trans ?_
    rw [ownRevokeSlot_fields hs rfl, index?_val, requireSome_some, check_bind_ok,
      require_pos (State.slotsOpen_of free.1 free.2), check_bind_ok, require_pos (bne_iff_ne.mpr class_), check_bind_ok,
      Slot.revocable?_eq_none kept, requireSome_none, check_bind_error, settle_error]
  · cases writes : s.store.write with
    | revoking p i => exact absurd writes (idle p i)
    | _ => simp only [exec, execRevocationWriteCompletion, writes]
  · have length := (Config.freeSlotLength draw).isLt
    refine ⟨_, _, _, rfl, ?_, ⟨by omega, by omega, by omega⟩, ?_⟩
    · split <;> nofun
    · split <;> nofun

end Sys2Proof.Machine
end

section
/-! PROOFS. The image and the modes: saves (O46), Ship (O47), Reopen (O48), the start-up load (O49). -/

namespace Sys2Proof.Machine

open Sys2Proof

/-! ## Saves (R157, R158, R160) -/

theorem exec_saveCompletion {s : State} {x : ImageContents} (saves : s.store.write = .saving x) (result : WriteResult) :
    exec (.saveCompletion result) s = .next (s.finishSave result x) := by
  simp only [exec, execSaveCompletion, saves]

theorem State.finishSave_of_not_shipping {s : State} (clear : s.modes.shipping = false) (result : WriteResult)
    (x : ImageContents) :
    s.finishSave result x = { s with
      store := (s.finishSave result x).store
      attention := s.attention.raise .save } := by
  cases result <;> simp only [State.finishSave, clear] <;> rfl

/-- Settles O46. -/
theorem savesBeginAndComplete : Obligations.SavesBeginAndComplete := by
  refine fun s => ⟨fun p level tag h clear => ⟨fun idle unselected => ⟨s.contents, s.contents_holds, ?_⟩, fun busy => ?_⟩,
    fun x saves clear => ⟨?_, ?_⟩⟩
  · have mode := (admits_one h.2.2).1
    refine (exec_settled rfl h (Nat.zero_le _) rfl rfl).trans ?_
    have free : (!s.writeRuns && !s.modes.shipping && s.regions.selection.isNone) = true := by
      simp [State.writeRuns, idle, clear, unselected]
    rewrite [ownSaveImage, require_pos (bne_iff_ne.mpr mode), check_bind_ok, require_pos free, check_bind_ok, check_pure,
      settle_reply]
    unfold State.tripleCount
    cases s.grid.descriptor <;> rfl
  · have mode := (admits_one h.2.2).1
    refine (exec_settled rfl h (Nat.zero_le _) rfl rfl).trans ?_
    have closed : (!s.writeRuns && !s.modes.shipping && s.regions.selection.isNone) = false := by
      rcases busy with writes | selected
      · simp [State.writeRuns, writes]
      · rw [Option.isNone_eq_false_iff.mpr (Option.isSome_iff_ne_none.mpr selected), Bool.and_false]
    rw [ownSaveImage, require_pos (bne_iff_ne.mpr mode), check_bind_ok, require_neg closed, check_bind_error, settle_error]
  · rw [exec_saveCompletion saves, State.finishSave_of_not_shipping clear, State.finishSave_store]
  · rw [exec_saveCompletion saves, State.finishSave_of_not_shipping clear, State.finishSave_store]

/-! ## The readiness of Ship (R147) -/

theorem mem_slots_iff (v : Vector Slot 16) (x : Slot) : x ∈ v.toList ↔ ∃ i : Fin 16, v[i] = x := by
  rw [Vector.mem_toList_iff, Vector.mem_iff_getElem]
  exact ⟨fun ⟨i, hi, e⟩ => ⟨⟨i, hi⟩, e⟩, fun ⟨i, e⟩ => ⟨i, i.isLt, e⟩⟩

theorem Slot.isLoadedService_iff (x : Slot) : x.isLoadedService = true ↔ ∃ n d k, x = .loaded .service n d k := by
  cases x <;> simp [Slot.isLoadedService]

/-- The readiness conditions of Ship, in their order (R147). -/
def State.shipConditions (s : State) (force : Bool) : List Prop :=
  [s.store.write = .idle, ∀ i : Fin 16, s.creds.slots[i].isLoading = false, s.regions.active? ≠ none,
    s.regions.selection = none, s.grid.descriptor ≠ none, s.queue.entries = [], s.conv.readings = [],
    s.modes.mode = .factory → ∃ (i : Fin 16) (n : Nat) (d : List Byte) (k : CheckValue),
      s.creds.slots[i] = .loaded .service n d k,
    s.grid.allConverged = true ∨ force = true]

/-- Each condition of the check is the condition of that place, with its reason code (R147). -/
theorem State.readiness_iff (s : State) (force : Bool) (n : Fin 9) :
    ((s.readiness force)[n].2 = true ↔ (s.shipConditions force)[n]) ∧ (s.readiness force)[n].1 = n + 1 := by
  have unloading : (s.creds.slots.toList.all (fun x => !x.isLoading)) = true ↔
      ∀ i : Fin 16, s.creds.slots[i].isLoading = false := by
    simp only [List.all_eq_true, mem_slots_iff, forall_exists_index, forall_apply_eq_imp_iff, Bool.not_eq_true']
  have service : (s.modes.mode != .factory || s.creds.slots.toList.any Slot.isLoadedService) = true ↔
      (s.modes.mode = .factory → ∃ (i : Fin 16) (n : Nat) (d : List Byte) (k : CheckValue),
        s.creds.slots[i] = .loaded .service n d k) := by
    simp only [Bool.or_eq_true, bne_iff_ne, List.any_eq_true, mem_slots_iff, Slot.isLoadedService_iff]
    rw [or_iff_not_imp_left, not_not]
    exact imp_congr_right fun _ => ⟨fun ⟨_, ⟨i, e⟩, n, d, k, loaded⟩ => ⟨i, n, d, k, e.trans loaded⟩,
      fun ⟨i, n, d, k, loaded⟩ => ⟨_, ⟨i, rfl⟩, n, d, k, loaded⟩⟩
  match n with
  | 0 => exact ⟨by simp [State.readiness, State.shipConditions, State.writeRuns], rfl⟩
  | 1 => exact ⟨unloading, rfl⟩
  | 2 => exact ⟨Option.isSome_iff_ne_none, rfl⟩
  | 3 => exact ⟨Option.isNone_iff_eq_none, rfl⟩
  | 4 => exact ⟨Option.isSome_iff_ne_none, rfl⟩
  | 5 => exact ⟨List.isEmpty_iff, rfl⟩
  | 6 => exact ⟨List.isEmpty_iff, rfl⟩
  | 7 => exact ⟨service, rfl⟩
  | 8 => exact ⟨Bool.or_eq_true_iff, rfl⟩

/-- The reason is that of the first condition that fails (R147). -/
theorem State.notReadyReason_first {s : State} {force : Bool} {n : Fin 9} (fails : ¬(s.shipConditions force)[n])
    (before : ∀ m : Fin 9, m < n → (s.shipConditions force)[m]) : s.notReadyReason force = some (n.val + 1) := by
  have found : (s.readiness force).find? (fun c => !c.2) = some (s.readiness force)[n] := by
    rw [List.find?_eq_some_iff_getElem]
    refine ⟨?_, n, n.isLt, rfl, fun j hj => ?_⟩
    · rw [Bool.not_eq_true', ← Bool.not_eq_true, (s.readiness_iff force n).1]
      exact fails
    · have holds := ((s.readiness_iff force ⟨j, hj.trans n.isLt⟩).1).mpr (before ⟨j, hj.trans n.isLt⟩ hj)
      simpa using holds
  rw [State.notReadyReason, found, Option.map_some, (s.readiness_iff force n).2]

theorem State.notReadyReason_ready {s : State} {force : Bool} (h : ∀ n : Fin 9, (s.shipConditions force)[n]) :
    s.notReadyReason force = none := by
  have unfound : (s.readiness force).find? (fun c => !c.2) = none := by
    rw [List.find?_eq_none]
    intro c hc
    obtain ⟨j, hj, rfl⟩ := List.getElem_of_mem hc
    have holds := ((s.readiness_iff force ⟨j, hj⟩).1).mpr (h ⟨j, hj⟩)
    simpa using holds
  rw [State.notReadyReason, unfound, Option.map_none]

/-! ## Ship (R146 to R151) -/

theorem ownShip_fields {c : Call} {s : State} {force : Byte} (payload : c.payload = [force]) :
    ownShip c s = (do
      require (decide (force.toNat ≤ 1)) .badValue
      require (s.modes.mode != .field) .mode
      require (!s.modes.shipping) .busy
      match s.notReadyReason (force.toNat == 1) with
      | some reason => .error (.notReady, u8 reason)
      | none => return .wait s.takeShip) := by
  rewrite [ownShip, payload, read8_byte, check_bind_ok]
  rfl

theorem ownShip_judged {c : Call} {s : State} {force : Bool} (payload : c.payload = [if force then 1 else 0])
    (mode : s.modes.mode ≠ .field) (clear : s.modes.shipping = false) :
    ownShip c s = (match s.notReadyReason force with
      | some reason => .error (.notReady, u8 reason)
      | none => return .wait s.takeShip) := by
  have value : (if force then 1 else 0 : Byte).toNat ≤ 1 ∧ ((if force then 1 else 0 : Byte).toNat == 1) = force := by
    cases force <;> decide
  rewrite [ownShip_fields payload, require_pos (decide_eq_true value.1), check_bind_ok, require_pos (bne_iff_ne.mpr mode),
    check_bind_ok, clear, value.2]
  rfl

/-- What Ship leaves when it is taken (R148). -/
theorem State.takeShip_eq (s : State) :
    s.takeShip = { s with
      creds := s.creds.bindAll
      modes := { s.modes with shipping := true, boundByShip := s.creds.loadedSlots }
      queue := { s.queue with hold := .released }
      engine := { s.engine with lineBypass := false }
      generator := { s.generator with requested := .external }
      store := s.takeShip.store } := by
  unfold State.takeShip
  dsimp only
  split <;> rfl

/-- The save of Ship takes the records as they stand once the slots are bound (R148, R158). -/
theorem holdsRecordsOf_bound (s : State) :
    holdsRecordsOf { s.contents with slots := mapTable Slot.saved s.creds.bindAll.slots } s.takeShip := by
  obtain ⟨none, some, profiles, -⟩ := s.contents_holds
  refine ⟨fun h => none (by rwa [State.takeShip_grid] at h), fun d h => ?_, by rw [State.takeShip_regions]; exact profiles,
    fun i => ?_⟩
  · rw [State.takeShip_grid] at h ⊢
    exact some d h
  · rw [State.takeShip_creds, mapTable_get, Slot.saved_eq]

theorem loadedSlots_isEmpty (t : CredentialTable) :
    (!t.loadedSlots.isEmpty) = (List.finRange 16).any (fun i => t.slots[i].isLoaded) := by
  rw [Bool.eq_iff_iff, Bool.not_eq_true', ← Bool.not_eq_true, List.isEmpty_iff, CredentialTable.loadedSlots,
    List.filter_eq_nil_iff, List.any_eq_true]
  push Not
  rfl

/-- Settles O47. -/
theorem shipBindsSavesAndEnds : Obligations.ShipBindsSavesAndEnds := by
  refine fun s => ⟨fun p level tag force h => ⟨fun above => ?_, fun small ships => ?_⟩, fun p level tag force h clear => ?_,
    fun x saves ships => ⟨?_, ?_⟩⟩
  · refine (exec_settled rfl h (by simp) rfl rfl).trans ?_
    rw [ownShip_fields rfl, require_neg (decide_eq_false (by omega)), check_bind_error, settle_error]
  · have mode := (admits_one h.2.2).1
    refine (exec_settled rfl h (by simp) rfl rfl).trans ?_
    rw [ownShip_fields rfl, require_pos (decide_eq_true small), check_bind_ok, require_pos (bne_iff_ne.mpr mode),
      check_bind_ok, ships]
    rfl
  · obtain ⟨mode, rfl⟩ := admits_one h.2.2
    have judged := (exec_settled (i := .ship .line (frameOf level tag [if force then 1 else 0])) rfl h (by simp) rfl rfl).trans
      (congrArg (fun a => Host.Outcome.next (s.settle .line tag a)) (ownShip_judged rfl mode clear))
    intro conditions
    refine ⟨fun n fails before => judged.trans ?_, fun holds => ?_⟩
    · rw [State.notReadyReason_first fails before]
      rfl
    · rw [State.notReadyReason_ready holds] at judged
      have slot (i : Fin 16) : s.takeShip.creds.slots[i] = match s.creds.slots[i] with
          | .loaded c n d k => .bound c n d k
          | other => other := by
        rewrite [State.takeShip_creds, CredentialTable.bindAll_slot]
        cases s.creds.slots[i] <;> rfl
      have loading : s.takeShip.creds.loading = s.creds.loading := by
        rw [State.takeShip_creds, CredentialTable.bindAll_loading]
      refine ⟨s.takeShip.awaiting .line tag, { s.contents with slots := mapTable Slot.saved s.creds.bindAll.slots }, judged,
        holdsRecordsOf_bound s, loading, slot, ?_⟩
      have taken := s.takeShip_eq
      rw [State.takeShip_store] at taken
      rw [← loadedSlots_isEmpty, taken]
      rfl
  · rw [exec_saveCompletion saves]
    simp only [State.finishSave, ships, if_true, State.raiseIf]
    rfl
  · have slots : (s.finishSave .fault x).creds = s.creds.unbindAll s.modes.boundByShip := by
      rw [State.finishSave_creds, if_pos ⟨ships, rfl⟩]
    refine ⟨s.finishSave .fault x, exec_saveCompletion saves .fault, ?_, fun i => ?_, ?_⟩
    · rw [slots, CredentialTable.unbindAll_loading]
    · rewrite [slots, CredentialTable.unbindAll_slot]
      cases s.creds.slots[i] <;> split <;> rfl
    · simp only [State.finishSave, ships, if_true, State.raiseIf]
      rfl

/-! ## Reopen (R153, R154) -/

theorem Slot.serviceData?_iff (x : Slot) (d : List Byte) : x.serviceData? = some d ↔ ∃ n k, x = .bound .service n d k := by
  cases x with
  | bound c n d' k => cases c <;> simp [Slot.serviceData?]
  | _ => simp [Slot.serviceData?]

theorem CredentialTable.serviceCredential?_eq_none {t : CredentialTable}
    (h : ∀ (i : Fin 16) n d k, t.slots[i] ≠ .bound .service n d k) : t.serviceCredential? = none := by
  rw [CredentialTable.serviceCredential?, List.findSome?_eq_none_iff]
  intro x hx
  obtain ⟨i, rfl⟩ := (mem_slots_iff _ _).mp hx
  rw [Option.eq_none_iff_forall_ne_some]
  intro d found
  obtain ⟨n, k, bound⟩ := (Slot.serviceData?_iff _ _).mp found
  exact h i n d k bound

/-- The one BOUND slot of class SERVICE is the service credential (R126, R153). -/
theorem CredentialTable.serviceCredential?_eq_some {t : CredentialTable} {i : Fin 16} {n : Nat} {d : List Byte}
    {k : CheckValue} (bound : t.slots[i] = .bound .service n d k)
    (only : ∀ j : Fin 16, j ≠ i → t.slots[j].class? ≠ some .service) : t.serviceCredential? = some d := by
  have here : t.slots[i].serviceData? = some d := (Slot.serviceData?_iff _ _).mpr ⟨n, k, bound⟩
  cases found : t.serviceCredential? with
  | none =>
    rw [CredentialTable.serviceCredential?, List.findSome?_eq_none_iff] at found
    rw [found _ ((mem_slots_iff _ _).mpr ⟨i, rfl⟩)] at here
    cases here
  | some d' =>
    obtain ⟨x, hx, holds⟩ := List.exists_of_findSome?_eq_some found
    obtain ⟨j, rfl⟩ := (mem_slots_iff _ _).mp hx
    obtain ⟨n', k', bound'⟩ := (Slot.serviceData?_iff _ _).mp holds
    obtain rfl : j = i := by
      by_contra other
      exact only j other (by rw [bound']; rfl)
    rw [← holds, here]

/-- What the checks of a Reopen on the Line Port of a FIELD part come to (R153). -/
theorem ownReopen_field {c : Call} {s : State} (length : c.payload.length = 32) (port : c.port = .line)
    (mode : s.modes.mode = .field) :
    ownReopen c s = (do
      let credential ← requireSome s.creds.serviceCredential? .noCredential
      require (decide (s.modes.failures < 3)) .lockedOut
      if c.payload = credential then
        return .reply .ok (u8 1) { s with modes := { s.modes with mode := .service, failures := 0 } }
      else
        return .reply .denied (u8 (s.modes.failures + 1))
          { s with modes := { s.modes with failures := s.modes.failures + 1 }
                   attention := s.attention.raise .reopenFail }) := by
  rw [ownReopen, require_pos (beq_iff_eq.mpr length), check_bind_ok, require_pos (beq_iff_eq.mpr port), check_bind_ok,
    require_pos (beq_iff_eq.mpr mode), check_bind_ok]
  rfl

/-- Settles O48. -/
theorem reopenComparesTheToken : Obligations.ReopenComparesTheToken := by
  intro s p level tag token h hlen request
  have settled : exec request s = _ := exec_settled (g := { length := none, level := always 2 }) rfl h hlen rfl rfl
  refine ⟨fun short => settled.trans ?_, fun exact port => settled.trans ?_, fun exact port mode => settled.trans ?_,
    fun exact port mode unbound => settled.trans ?_, fun exact port mode i n d k bound only => ?_⟩
  · rw [ownReopen, require_neg (beq_eq_false_iff_ne.mpr short), check_bind_error, settle_error]
  · subst port
    rw [ownReopen, require_pos (beq_iff_eq.mpr exact), check_bind_ok]
    rfl
  · rw [ownReopen, require_pos (beq_iff_eq.mpr exact), check_bind_ok, require_pos (beq_iff_eq.mpr port), check_bind_ok,
      require_neg (beq_eq_false_iff_ne.mpr mode), check_bind_error, settle_error]
  · rw [ownReopen_field exact port mode, CredentialTable.serviceCredential?_eq_none unbound, requireSome_none,
      check_bind_error, settle_error]
  · rw [ownReopen_field exact port mode, CredentialTable.serviceCredential?_eq_some bound only, requireSome_some,
      check_bind_ok] at settled
    refine ⟨fun locked => settled.trans ?_, fun unlocked same => settled.trans ?_, fun unlocked other => settled.trans ?_⟩
    · rw [require_neg (decide_eq_false (Nat.not_lt.mpr locked)), check_bind_error, settle_error]
    · rw [require_pos (decide_eq_true unlocked), check_bind_ok, if_pos same, check_pure, settle_reply]
    · rw [require_pos (decide_eq_true unlocked), check_bind_ok, if_neg other, check_pure, settle_reply]

/-! ## The start-up load (R164) -/

/-- Settles O49. -/
theorem startUpLoadFollowsTheImage : Obligations.StartUpLoadFollowsTheImage := by
  intro s supply loads
  have run : exec .startUpLoadCompletion s = .next s.completeLoad := by
    simp only [exec, execStartUpLoadCompletion, supply, loads, and_self, if_true]
  refine ⟨fun blank => run.trans ?_, fun incomplete => run.trans ?_, fun x complete => ⟨s.completeLoad, run, ?_⟩⟩
  · simp only [State.completeLoad, blank]
  · simp only [State.completeLoad, incomplete]
    rfl
  · have loaded : s.completeLoad = { s with
        store := { s.store with startUp := .ready }
        grid := restoredGrid x.grid
        regions := { profiles := x.profiles, selection := none }
        creds := { slots := mapTable Slot.saved x.slots, loading := none } } := by
      simp only [State.completeLoad, complete]
    rw [loaded]
    refine ⟨rfl, rfl, fun i => ?_, fun blank => ?_, fun d records grid => ?_⟩
    · rw [mapTable_get, Slot.saved_eq]
    · rw [blank]
      rfl
    · rw [grid]
      exact ⟨rfl, rfl, rfl, rfl, rfl⟩

end Sys2Proof.Machine
end

section
/-! PROOFS. The state after reset meets every invariant (O60). -/

namespace Sys2Proof.Machine

open Sys2Proof

/-- A BLANK image and no save hold no contents (R164). -/
theorem ImageController.contentsSatisfy_blank {c : ImageController} (good : ImageContents → Prop) (image : c.image = .blank)
    (write : c.write = .idle) : c.contentsSatisfy good := by
  constructor
  · rw [image]; exact nofun
  · rw [write]; exact nofun

/-- No profile is held after a reset (R124). -/
theorem reset_profile_empty (i : Fin 8) : State.reset.regions.profiles[i] = .empty := by
  revert i
  decide

/-- Settles O60. -/
theorem resetStateIsSound : Obligations.ResetStateIsSound := by
  have blank (good) : State.reset.store.contentsSatisfy good := ImageController.contentsSatisfy_blank good rfl rfl
  have parameters : State.reset.conv.parameters.inRange := by decide
  have shape : State.reset.gridSound := ⟨GridStore.shapeSound_none rfl rfl, blank _⟩
  have ceilings : State.reset.ceilingsSound :=
    ⟨by decide, fun i st r held => (nomatch (reset_profile_empty i).symm.trans held), blank _⟩
  have credentials : State.reset.credentialsSound :=
    State.credentialsSound_iff.mpr ⟨CredentialTable.sound_reset, State.revokingSound_of_idle rfl, blank _⟩
  exact ⟨by decide, State.reset_timersSound, ⟨nofun, nofun, parameters, blank _⟩, shape,
    State.queuesWithinGrid_of_empty rfl rfl, .inr ⟨rfl, rfl, rfl, rfl⟩, GridStore.countsSound_none rfl rfl,
    ⟨by decide, by decide, nofun, fun _ => rfl⟩, ⟨profilesSound_reset, nofun, blank _⟩, ceilings, credentials,
    State.repliesSound_of_reset rfl rfl rfl rfl rfl, rfl⟩

end Sys2Proof.Machine
end

section
/-! PROOFS. What entries make of the records: WRITE, ADJUST and CONVERGE (O22), RETIRE and RESTORE (O24). -/

namespace Sys2Proof.Machine

open Sys2Proof

/-! ## Entries that name one record (R7, R8, R57) -/

theorem KnotState.writable_of {x : KnotState} (unpinned : x ≠ .pinned) (unretired : x ≠ .retired) : x.writable = true := by
  rw [← Bool.not_eq_false, KnotState.writable_eq_false_iff]
  exact fun kept => kept.elim unpinned unretired

section Direct

variable {d : Descriptor} {frame : FrameNumber} {a : Application} {column row plane : Nat} {old : KnotRecord}
  (h : a.grid.records[d.index plane row column]? = some old) (v : Rgb (Option Int))

include h

theorem Application.apply_write_writable (writable : old.state.writable = true) :
    a.apply d frame (.write column row plane v) = a.update d plane row column (fun k => some (k.written v frame)) := by
  simp only [Application.apply, GridStore.record?, h, writable, if_true]

theorem Application.apply_write_kept (kept : old.state.writable = false) :
    a.apply d frame (.write column row plane v) =
      { a with grid := { a.grid with writeSkip := bump a.grid.writeSkip } } := by
  simp only [Application.apply, GridStore.record?, h, kept, Bool.false_eq_true, if_false]

theorem Application.apply_adjust_writable (writable : old.state.writable = true) :
    a.apply d frame (.adjust column row plane v) =
      ({ a with reply := some (adjustReply v old frame) } : Application).update d plane row column
        (fun k => some (k.written (adjustedTrims v k.trim) frame)) := by
  simp only [Application.apply, GridStore.record?, h, writable, if_true]

theorem Application.apply_adjust_kept (kept : old.state.writable = false) :
    a.apply d frame (.adjust column row plane v) = { a with reply := some (adjustReply v old frame) } := by
  simp only [Application.apply, GridStore.record?, h, kept, Bool.false_eq_true, if_false]

end Direct

/-- The fields of a deferred reply, channel by channel (R57). -/
theorem adjustFields_eq (v : Rgb (Option Int)) (t : Rgb Int) (changes : Bool) (field : Option Int → Int → List Byte)
    (absent : ∀ t, field none t = [])
    (present : ∀ delta t, field (some delta) t = if changes then s16 t ++ s16 (saturate (t + delta)) else s16 t) :
    adjustFields v t changes = field v.r t.r ++ field v.g t.g ++ field v.b t.b := by
  have same : ∀ (d : Option Int) (t : Int), (match d with
      | none => []
      | some delta => if changes then s16 t ++ s16 (saturate (t + delta)) else s16 t) = field d t := by
    intro d t
    cases d with
    | none => exact (absent t).symm
    | some delta => exact (present delta t).symm
  have fields : adjustFields v t changes = [field v.r t.r, field v.g t.g, field v.b t.b].flatten := by
    rewrite [← same v.r, ← same v.g, ← same v.b]
    rfl
  rw [fields]
  simp only [List.flatten_cons, List.flatten_nil, List.append_nil, List.append_assoc]

theorem adjustReply_writable {r : KnotRecord} (unpinned : r.state ≠ .pinned) (unretired : r.state ≠ .retired)
    (v : Rgb (Option Int)) (frame : FrameNumber) :
    adjustReply v r frame = (.ok, u32 frame.toNat ++ adjustFields v r.trim true) := by
  unfold adjustReply
  split
  · next e => exact absurd e unpinned
  · next e => exact absurd e unretired
  · rfl

theorem adjustReply_kept {r : KnotRecord} (kept : r.state = .pinned ∨ r.state = .retired)
    (v : Rgb (Option Int)) (frame : FrameNumber) :
    adjustReply v r frame =
      (if r.state = .pinned then .pinned else .retired, u32 frame.toNat ++ adjustFields v r.trim false) := by
  rcases kept with kept | kept <;> simp [adjustReply, kept]

/-- Settles O22. -/
theorem directEntriesChangeTheirRecord : Obligations.DirectEntriesChangeTheirRecord := by
  intro d frame a column row plane old h moved both kept
  refine ⟨fun unpinned unretired v => ?_, fun held v => ?_, fun trim hits limit st => Application.update_some h rfl⟩
  · have writable := KnotState.writable_of unpinned unretired
    have fields := adjustFields_eq v old.trim true both (fun _ => rfl) (fun _ _ => rfl)
    rw [Application.apply_write_writable h v writable, Application.apply_adjust_writable h v writable]
    refine ⟨Application.update_some h rfl, Application.update_writeSkip .., Application.update_some (a := { a with reply := _ }) h rfl,
      Application.update_writeSkip .., ?_⟩
    rw [Application.update_reply, adjustReply_writable unpinned unretired, fields]
    simp only [List.append_assoc]
  · have unwritable := (KnotState.writable_eq_false_iff _).mpr held
    have fields := adjustFields_eq v old.trim false kept (fun _ => rfl) (fun _ _ => rfl)
    rw [Application.apply_write_kept h v unwritable, Application.apply_adjust_kept h v unwritable,
      adjustReply_kept held, fields]
    refine ⟨rfl, rfl, rfl, ?_⟩
    simp only [List.append_assoc]

/-! ## Entries that name a knot on every plane (R10, R11) -/

theorem meanTrim_of_some {values : List Int} (h : values ≠ []) :
    meanTrim values = (2 * values.sum + values.length) / (2 * values.length) := by
  rw [meanTrim, if_neg (by simpa using h)]
  rfl

theorem applyEntries_append {g : GridStore} {d : Descriptor} (h : g.descriptor = some d) (frame : FrameNumber)
    (entries : List Entry) (last : Entry) :
    applyEntries g frame (entries ++ [last]) = (applyEntries g frame entries).apply d frame last := by
  simp only [applyEntries, h, List.foldl_append, List.foldl_cons, List.foldl_nil]

/-- The neighbours of a knot: the four places next to it, without the knot itself at an edge (R10). -/
theorem Descriptor.neighbours_eq (d : Descriptor) (c r : Nat) :
    d.neighbours c r = [(c - 1, r), (c + 1, r), (c, r - 1), (c, r + 1)].filter
      (fun k => k ≠ (c, r) ∧ k.1 < d.columns ∧ k.2 < d.rows) := by
  have left : (((c - 1, r) : Nat × Nat) ≠ (c, r)) ↔ 0 < c := by rw [ne_eq, Prod.mk.injEq]; omega
  have above : (((c, r - 1) : Nat × Nat) ≠ (c, r)) ↔ 0 < r := by rw [ne_eq, Prod.mk.injEq]; omega
  have right : ((c + 1, r) : Nat × Nat) ≠ (c, r) := by simp
  have below : ((c, r + 1) : Nat × Nat) ≠ (c, r) := by simp
  have places : [(c - 1, r), (c + 1, r), (c, r - 1), (c, r + 1)].filter (fun k => decide (k ≠ (c, r))) =
      (if 0 < c then [(c - 1, r)] else []) ++ [(c + 1, r)] ++ (if 0 < r then [(c, r - 1)] else []) ++ [(c, r + 1)] := by
    simp only [List.filter_cons, List.filter_nil, decide_eq_true_eq, left, above, if_pos right, if_pos below]
    split <;> split <;> rfl
  rw [Descriptor.neighbours, ← places, List.filter_filter]
  refine List.filter_congr fun k _ => ?_
  rw [Descriptor.holds, Bool.decide_and, Bool.decide_and, Bool.and_comm]

/-- The trims of the neighbours that are not RETIRED (R10). -/
theorem GridStore.fillTrims_eq (g : GridStore) (d : Descriptor) (plane row column : Nat) :
    g.fillTrims d plane row column =
      (((d.neighbours column row).filterMap (fun k => g.record? d plane k.2 k.1)).filter
        (fun x => x.state ≠ .retired)).map (·.trim) := by
  unfold GridStore.fillTrims
  induction d.neighbours column row with
  | nil => rfl
  | cons k l ih =>
    rw [List.filterMap_cons, List.filterMap_cons]
    cases g.record? d plane k.2 k.1 with
    | none => exact ih
    | some r =>
      by_cases retired : r.state = .retired
      · simpa [retired] using ih
      · simpa [retired] using ih

section Knot

variable {d : Descriptor} {frame : FrameNumber} {a : Application} {c r column row plane : Nat}

/-- The changes of one knot's records leave the records of every other knot. -/
theorem Application.knotFold_other {l : List Nat} {change : Application → Nat → KnotRecord → Option KnotRecord}
    (hc : c < d.columns) (hr : r < d.rows) (hcolumn : column < d.columns) (hrow : row < d.rows)
    (other : (column, row) ≠ (c, r)) :
    (l.foldl (fun a p => a.update d p r c (change a p)) a).grid.records[d.index plane row column]? =
      a.grid.records[d.index plane row column]? := by
  refine Application.fold_other a fun b p _ => Application.update_other fun same => other ?_
  obtain ⟨-, rfl, rfl⟩ := Descriptor.index_inj hrow hcolumn hr hc same
  rfl

/-- The fill of a knot goes by the records of other knots, which the entry leaves (R10). -/
theorem GridStore.fill_congr {g g' : GridStore}
    (same : ∀ k ∈ d.neighbours c r, g.record? d plane k.2 k.1 = g'.record? d plane k.2 k.1) :
    g.fill d plane r c = g'.fill d plane r c := by
  have trims : g.fillTrims d plane r c = g'.fillTrims d plane r c := by
    rw [GridStore.fillTrims_eq, GridStore.fillTrims_eq, List.filterMap_congr same]
  rw [GridStore.fill, GridStore.fill, trims]

/-- A RETIRE entry makes a knot's record on a plane RETIRED with the fill that its neighbours had before it (R10). -/
theorem Application.apply_retire_knot {old : KnotRecord} (hc : c < d.columns) (hr : r < d.rows) (hp : plane < d.planes)
    (h : a.grid.records[d.index plane r c]? = some old) :
    (a.apply d frame (.retire c r)).grid.records[d.index plane r c]? =
      some (old.retiredWith (a.grid.fill d plane r c) frame) := by
  obtain ⟨before, -, -, found, left⟩ := Application.fold_at
    (f := fun a p => a.update d p r c (fun k => some (k.retiredWith (a.grid.fill d p r c) frame)))
    (i := d.index plane r c) a List.nodup_range (List.mem_range.mpr hp)
    (fun b p _ hne => Application.update_other fun e => hne (Descriptor.index_inj hr hc hr hc e).1.symm)
  refine left.trans ((Application.update_self (found.trans h)).trans ?_)
  refine congrArg (fun fill => some (old.retiredWith fill frame)) (GridStore.fill_congr fun k hk => ?_)
  rw [Descriptor.neighbours_eq, List.mem_filter, decide_eq_true_eq] at hk
  obtain ⟨-, other, hcolumn, hrow⟩ := hk
  exact Application.knotFold_other hc hr hcolumn hrow other

/-- A RESTORE entry makes a knot's RETIRED record on a plane PROVISIONAL (R11). -/
theorem Application.apply_restore_knot {old : KnotRecord} (hc : c < d.columns) (hr : r < d.rows) (hp : plane < d.planes)
    (h : a.grid.records[d.index plane r c]? = some old) :
    (a.apply d frame (.restore c r)).grid.records[d.index plane r c]? =
      some (if old.state = .retired then old.restored frame else old) := by
  obtain ⟨before, -, -, found, left⟩ := Application.fold_at
    (f := fun a p => a.update d p r c (fun k => if k.state = .retired then some (k.restored frame) else none))
    (i := d.index plane r c) a List.nodup_range (List.mem_range.mpr hp)
    (fun b p _ hne => Application.update_other fun e => hne (Descriptor.index_inj hr hc hr hc e).1.symm)
  refine left.trans ((Application.update_self (found.trans h)).trans ?_)
  split <;> rfl

end Knot

/-- Settles O24. -/
theorem knotEntriesRetireAndRestore : Obligations.KnotEntriesRetireAndRestore := by
  refine ⟨fun values => meanTrim_of_some, rfl, fun g d frame entries last h => applyEntries_append h frame entries last,
    fun d frame a c r column row plane old _ hc hr hcolumn hrow hp h => ?_⟩
  intro neighbours trims
  by_cases same : (column, row) = (c, r)
  · obtain ⟨rfl, rfl⟩ := Prod.mk.inj same
    have fill : a.grid.fillTrims d plane row column = trims := by
      rw [GridStore.fillTrims_eq, Descriptor.neighbours_eq]
      rfl
    refine ⟨(Application.apply_retire_knot hc hr hp h).trans ?_, (Application.apply_restore_knot hc hr hp h).trans ?_⟩
    · rw [if_pos rfl, GridStore.fill, fill]
      rfl
    · by_cases retired : old.state = .retired
      · rw [if_pos retired, if_pos ⟨rfl, retired⟩]
        rfl
      · rw [if_neg retired, if_neg fun both => retired both.2]
  · rw [if_neg same, if_neg fun both => same both.1]
    exact ⟨(Application.knotFold_other hc hr hcolumn hrow same).trans h,
      (Application.knotFold_other hc hr hcolumn hrow same).trans h⟩

end Sys2Proof.Machine
end

section
/-! PROOFS. The output video: the codes of each treatment and what leaves at a pixel (O52). -/

namespace Sys2Proof.Machine

open Sys2Proof

/-! ## The correction of a code (R28, R32) -/

/-- A corrected code is the moved one, brought within 0 and the ceiling (R32). -/
theorem applyTrim_eq (ceiling v : Nat) (t : Int) :
    (applyTrim ceiling v t : Int) = max 0 (min (ceiling : Int) (v + roundDiv (v * t) 32768)) :=
  Int.toNat_of_nonneg (le_max_left _ _)

theorem applyTrim_le (ceiling v : Nat) (t : Int) : applyTrim ceiling v t ≤ ceiling := by
  have := applyTrim_eq ceiling v t
  omega

/-- A trim in range moves a code by at most a quarter of itself (R28, R32). -/
theorem roundDiv_trim_mem_Icc {v : Nat} {t lo hi : Int} (ht : trimInRange t) (low : lo * 4 ≤ -v) (high : (v : Int) ≤ hi * 4) :
    roundDiv (v * t) 32768 ∈ Set.Icc lo hi := by
  refine roundDiv_mem_Icc (by decide) ⟨?_, ?_⟩
  · calc lo * 32768 = lo * 4 * 8192 := by ring
      _ ≤ -v * 8192 := by gcongr
      _ = v * -8192 := by ring
      _ ≤ v * t := by gcongr; exact ht.1
  · calc (v : Int) * t ≤ v * 8192 := by gcongr; exact ht.2.trans (by decide)
      _ ≤ hi * 4 * 8192 := by gcongr
      _ = hi * 32768 := by ring

theorem moved_mem {v : Nat} {t : Int} (hv : v ≤ 1023) (ht : trimInRange t) :
    let moved := (v : Int) + roundDiv (v * t) 32768
    0 ≤ moved ∧ v - 256 ≤ moved ∧ moved ≤ v + 256 := by
  obtain ⟨whole, -⟩ := roundDiv_trim_mem_Icc (v := v) (lo := -v) (hi := v) ht (by omega) (by omega)
  obtain ⟨low, high⟩ := roundDiv_trim_mem_Icc (v := v) (lo := -256) (hi := 256) ht (by omega) (by omega)
  refine ⟨?_, ?_, ?_⟩ <;> omega

theorem applyTrim_zero (ceiling : Nat) (t : Int) : applyTrim ceiling 0 t = 0 := by
  have still : roundDiv ((0 : Nat) * t) 32768 = 0 := by rw [Nat.cast_zero, zero_mul]; rfl
  have := applyTrim_eq ceiling 0 t
  rw [still] at this
  omega

/-! ## Treatments (R27, R32, R34, R35) -/

section Treatments

variable {s : State} {ch : Channel} {x y v : Nat}

theorem engineCode_starting (h : s.engine.treatment = .starting) : s.engineCode ch x y v = min v 1023 := by
  simp only [State.engineCode, h]

theorem engineCode_black (h : s.engine.treatment = .black) : s.engineCode ch x y v = 0 := by
  simp only [State.engineCode, h]

theorem engineCode_uncorrected (h : s.engine.treatment = .uncorrected) : s.engineCode ch x y v = min v s.engine.ceiling := by
  simp only [State.engineCode, h]

theorem engineCode_corrected {d : Descriptor} (h : s.engine.treatment = .corrected) (hd : s.engine.latched = some d) :
    s.engineCode ch x y v = applyTrim s.engine.ceiling v (s.grid.pixelTrim d ch x y v) := by
  simp only [State.engineCode, h, hd]

/-- Whatever the code, the engine puts out none above the ceiling (R32, R34, R35), nor above 1023 under STARTING (R27). -/
theorem engineCode_le : s.engineCode ch x y v ≤ if s.engine.treatment = .starting then 1023 else s.engine.ceiling := by
  cases h : s.engine.treatment with
  | starting => exact (engineCode_starting h).trans_le (min_le_right _ _)
  | black => exact (engineCode_black h).trans_le (Nat.zero_le _)
  | uncorrected => exact (engineCode_uncorrected h).trans_le (min_le_right _ _)
  | corrected =>
    cases hd : s.engine.latched with
    | some d => exact (engineCode_corrected h hd).trans_le (applyTrim_le ..)
    | none => simp only [State.engineCode, h, hd, reduceCtorEq, if_false, min_le_right]

end Treatments

/-! ## What leaves at a pixel (R26, R27, R113, R114) -/

section Output

variable {s : State} {ch : Channel} {x y v : Nat}

theorem outputCode_unpowered (h : s.pins.supply = false) : s.outputCode ch x y v = none := by
  unfold State.outputCode
  cases s.timing.frame <;> simp only [h, Bool.not_false, if_true]

variable {f : Frame} (frame : s.timing.frame = some f) (supply : s.pins.supply = true)

include frame supply

theorem outputCode_outside (h : f.width ≤ x ∨ f.height ≤ y) : s.outputCode ch x y v = none := by
  simp only [State.outputCode, frame, supply, Bool.not_true, Bool.false_eq_true, if_false, if_pos h]

variable (hx : x < f.width) (hy : y < f.height)

include hx hy

theorem outputCode_cutOff (h : f.cutOff = true) : s.outputCode ch x y v = some 0 := by
  have inside : ¬(f.width ≤ x ∨ f.height ≤ y) := by omega
  simp only [State.outputCode, frame, supply, Bool.not_true, Bool.false_eq_true, if_false, if_neg inside, h, if_true]

/-- What leaves at a pixel of a frame that is not cut off goes by the frame's content (R27, R35, R113, R114). -/
theorem outputCode_content (whole : f.cutOff = false) :
    s.outputCode ch x y v =
      match f.content with
      | .blanking => none
      | .black => some 0
      | .input _ => some (s.engineCode ch x y v)
      | .generated =>
        if s.engine.treatment = .starting then some 0
        else
          match s.generator.shown with
          | none => some 0
          | some g => some (s.engineCode ch x y (g.code f.width ch x)) := by
  have inside : ¬(f.width ≤ x ∨ f.height ≤ y) := by omega
  simp only [State.outputCode, frame, supply, Bool.not_true, Bool.false_eq_true, if_false, if_neg inside, whole] <;>
    rfl

end Output

/-- A pixel's output code is 0 or one of the engine's (R26, R27, R35). -/
theorem outputCode_cases {s : State} {ch : Channel} {x y v o : Nat} (h : s.outputCode ch x y v = some o) :
    o = 0 ∨ ∃ code, o = s.engineCode ch x y code := by
  cases frame : s.timing.frame with
  | none => simp only [State.outputCode, frame, reduceCtorEq] at h
  | some f =>
    cases supply : s.pins.supply with
    | false => rw [outputCode_unpowered supply] at h; cases h
    | true =>
      by_cases outside : f.width ≤ x ∨ f.height ≤ y
      · rw [outputCode_outside frame supply outside] at h; cases h
      · obtain ⟨hx, hy⟩ : x < f.width ∧ y < f.height := by omega
        cases cut : f.cutOff with
        | true =>
          rw [outputCode_cutOff frame supply hx hy cut] at h
          exact .inl (Option.some.inj h).symm
        | false =>
          rw [outputCode_content frame supply hx hy cut] at h
          split at h
          · cases h
          · exact .inl (Option.some.inj h).symm
          · exact .inr ⟨_, (Option.some.inj h).symm⟩
          · split at h
            · exact .inl (Option.some.inj h).symm
            · split at h
              · exact .inl (Option.some.inj h).symm
              · exact .inr ⟨_, (Option.some.inj h).symm⟩

/-- What the generator draws (R93). -/
theorem GeneratorPattern.code_test (q : Pattern) (width : Nat) (ch : Channel) (x : Nat) :
    (GeneratorPattern.test q).code width ch x =
      if q.channels.get ch then (match q.kind with | .flat => q.level | .ramp => q.level * x / (width - 1)) else 0 := by
  cases kind : q.kind <;> simp only [GeneratorPattern.code, kind]

/-- Settles O52. -/
theorem outputStaysUnderTheCeiling : Obligations.OutputStaysUnderTheCeiling := by
  refine ⟨fun s ch x y v hv => ⟨fun h => ?_, engineCode_black, engineCode_uncorrected, fun d h hd => ?_, fun o ho => ?_⟩,
    fun width ch x => ⟨rfl, fun q => ⟨fun absent => ?_, fun present flat => ?_, fun present ramp => ?_⟩⟩,
    fun s ch x y v => ⟨outputCode_unpowered, fun h => ?_, fun f frame supply => ⟨outputCode_outside frame supply,
      fun hx hy => ⟨outputCode_cutOff frame supply hx hy, fun whole => ?_⟩⟩⟩⟩
  · rw [engineCode_starting h, min_eq_left hv]
  · intro moved
    have moved_eq : moved = (v : Int) + roundDiv (v * s.grid.pixelTrim d ch x y v) 32768 := rfl
    rw [engineCode_corrected h hd, moved_eq]
    refine ⟨applyTrim_eq .., moved_mem hv, ?_⟩
    rintro rfl
    exact applyTrim_zero ..
  · obtain rfl | ⟨code, rfl⟩ := outputCode_cases ho
    · exact ⟨fun _ => Nat.zero_le _, fun _ => Nat.zero_le _⟩
    · have bound := engineCode_le (s := s) (ch := ch) (x := x) (y := y) (v := code)
      exact ⟨fun other => by rwa [if_neg other] at bound, fun starts => by rwa [if_pos starts] at bound⟩
  · rw [GeneratorPattern.code_test, absent]
    rfl
  · rw [GeneratorPattern.code_test, if_pos present, flat]
  · have drawn : (GeneratorPattern.test q).code width ch x = q.level * x / (width - 1) := by
      rw [GeneratorPattern.code_test, if_pos present, ramp]
    rw [drawn]
    refine ⟨rfl, ?_, ?_⟩
    · rintro rfl
      rw [Nat.mul_zero, Nat.zero_div]
    · rintro wide rfl
      exact Nat.mul_div_cancel _ (by omega)
  · simp only [State.outputCode, h]
  · have output := outputCode_content (ch := ch) (v := v) frame supply hx hy whole
    refine ⟨fun content => ?_, fun content => ?_, fun i content => ?_, fun content starting => ?_,
      fun content starting g shown => ?_⟩ <;> rw [output, content]
    · exact if_pos starting
    · simp only [if_neg starting, shown]

end Sys2Proof.Machine
end

section
/-! PROOFS. What a frame start settles and latches: number, selection, family and cadence step (O27), source, settings and
the frame begun (O28), and the sighting of a frame (O29). -/

namespace Sys2Proof.Machine

open Sys2Proof

/-! ## A frame start that is due -/

/-- The input frame a frame start comes from, if any. -/
def inputOf : FrameOrigin → Option InputFrame
  | .internal => none
  | .input f => some f

theorem State.judgeInput_eq (s : State) (c : InputCondition) :
    s.judgeInput c = { s with
      timing := { s.timing with condition := c }
      attention := s.attention.raiseIf (c != s.timing.condition) .input } := by
  rw [← State.judgeInput_attention]
  unfold State.judgeInput State.raiseIf
  dsimp only
  split <;> rfl

theorem exec_frameStart_input {s : State} {f : InputFrame} (h : s.frameStartDue (.input f)) :
    exec (.frameStart (.input f)) s = .next (s.inputFrame f) := by
  obtain ⟨wf, supply, follows⟩ := h
  refine (whenWellFormed_true (show wellFormed (.frameStart (.input f)) = true from wf) _).trans ?_
  simp [State.originBegins, supply, follows]

/-- A frame start that is due occurs; beside it, one from an input frame judges the INPUT condition (R110, R115). -/
theorem exec_frameStart {s : State} {o : FrameOrigin} (h : s.frameStartDue o) :
    ∃ c b, exec (.frameStart o) s = .next { s.frameStart (inputOf o) with
      timing := { (s.frameStart (inputOf o)).timing with condition := c }
      attention := (s.frameStart (inputOf o)).attention.raiseIf b .input } := by
  cases o with
  | internal =>
    obtain ⟨supply, follows⟩ := h
    refine ⟨(s.frameStart none).timing.condition, false,
      (whenWellFormed_true (i := .frameStart .internal) rfl _).trans ?_⟩
    simp only [State.originBegins, supply, follows, Bool.not_false, Bool.and_self, if_true]
    rfl
  | input f =>
    refine ⟨conditionOf (s.frameStart (some f)).engine.latched f,
      conditionOf (s.frameStart (some f)).engine.latched f != (s.frameStart (some f)).timing.condition, (exec_frameStart_input h).trans ?_⟩
    rewrite [State.inputFrame, State.judgeInput_eq]
    rfl

/-! ## Number, selection, family and step (O27) -/

theorem RegionTable.takeEffect_none {t : RegionTable} (h : t.selection = none) : t.takeEffect = t := by
  simp [RegionTable.takeEffect, h]

theorem Profile.demote_of_held (st : ProfileState) (r : Region) :
    (Profile.held st r).demote = .held (if st = .active then .stored else st) r := by
  cases st <;> rfl

/-- Settles O27. -/
theorem frameStartSettlesFamilyAndStep : Obligations.FrameStartSettlesFamilyAndStep := by
  unfold Obligations.FrameStartSettlesFamilyAndStep
  intro s o h
  obtain ⟨c, b, hx⟩ := exec_frameStart h
  refine ⟨_, hx, ?_⟩
  dsimp only
  rw [State.frameStart_frame, State.frameStart_timing, State.frameStart_regions, State.frameStart_store,
    State.frameStart_attention]
  refine ⟨rfl, RegionTable.takeEffect_none, fun i r hsel hi => ?_, rfl, ?_⟩
  · have profile := RegionTable.takeEffect_profile hsel
    refine ⟨RegionTable.takeEffect_selection _, ?_, fun j hj hp => ?_, fun j hj st x hp => ?_, ?_, ?_, ?_⟩
    · rw [profile, if_pos rfl, hi]; rfl
    · rw [profile, if_neg hj, hp]; rfl
    · rw [profile, if_neg hj, hp, Profile.demote_of_held]
    · simp [hsel]
    · simp only [AttentionUnit.raiseIf_lineFlags_getLsbD]
      simp [hsel, Flag.bit]
    · simp only [AttentionUnit.raiseIf_setFlags_getLsbD]
      simp [hsel, Flag.bit]
  · simp only [FrameTiming.advance, FrameTiming.comingPhase, Option.map_some, State.comingStep, Family.stepAt]
    generalize familyInForce s.regions.takeEffect = family
    cases family <;> exact ⟨rfl, rfl⟩

/-! ## Source, settings and the frame begun (O28) -/

theorem chooseTreatment_eq (source : Source) (signal bypass : Bool) (latched : Option Descriptor) (o : FrameOrigin) :
    chooseTreatment source signal bypass latched ((inputOf o).map fun f => (f.width, f.height)) =
      (if source = .external ∧ signal = false then .black
      else if bypass = true then .uncorrected
      else
        match latched, o with
        | none, _ => .uncorrected
        | some d, .input f =>
          if source = .external ∧ (f.width ≠ d.width ∨ f.height ≠ d.height) then .uncorrected else .corrected
        | some _, .internal => .corrected) := by
  unfold chooseTreatment
  split
  · rfl
  split
  · rfl
  cases latched with
  | none => rfl
  | some d =>
    cases o with
    | internal => cases source <;> rfl
    | input f =>
      cases source with
      | internal => rfl
      | external =>
        by_cases size : f.width = d.width ∧ f.height = d.height
        · simp [inputOf, size]
        · simp only [inputOf, Option.map_some, if_neg size, true_and]
          rw [if_pos (by simpa only [not_and_or] using size)]

/-- Settles O28. -/
theorem frameStartLatchesTheSettings : Obligations.FrameStartLatchesTheSettings := by
  unfold Obligations.FrameStartLatchesTheSettings
  intro s o h
  obtain ⟨c, b, hx⟩ := exec_frameStart h
  refine ⟨_, hx, ?_⟩
  dsimp only
  rw [State.frameStart_timing, State.frameStart_generator, State.frameStart_regions, State.frameStart_descriptor]
  refine ⟨rfl, ?_, ?_, fun hr => ?_, fun hr => ?_, ?_, ?_⟩
  · rw [State.frameStart_engine]; split <;> rfl
  · rw [State.frameStart_engine]; split <;> rfl
  · rw [State.frameStart_engine, if_neg (by simpa [State.isReady] using hr)]
    exact ⟨rfl, rfl, rfl, rfl⟩
  · rw [State.frameStart_engine, if_pos (by simpa [State.isReady] using hr)]
    refine ⟨rfl, rfl, rfl, ?_⟩
    exact chooseTreatment_eq ..
  · rw [State.frameStart_frame]
    refine ⟨_, rfl, rfl, rfl, ?_, ?_⟩
    · dsimp only
      cases contentBegun s.generator.requested s.pins.signal (inputOf o) <;>
        cases hl : (s.frameStart (inputOf o)).engine.latched <;>
          simp [sizeBegun, CorrectionEngine.frameSize, hl, Config.defaultWidth, Config.defaultHeight]
    · cases s.generator.requested <;> cases o <;> rfl
  · cases s.generator.requested <;> cases o <;> rfl

/-! ## Markers and sightings (O29) -/

/-- A channel set's number is 1..7, and its bits name the channels (R95). -/
theorem channelSet?_eq_some_iff {n : BitVec 10} {channels : ChannelSet} :
    channelSet? n.toNat = some channels ↔
      1 ≤ n.toNat ∧ n.toNat ≤ 7 ∧ channels = ⟨n.getLsbD 0, n.getLsbD 1, n.getLsbD 2⟩ := by
  unfold channelSet?
  rw [Option.ite_none_right_eq_some, Option.some_inj, and_assoc]
  exact and_congr_right' (and_congr_right' eq_comm)

theorem markerPattern?_eq_some_iff {c0 c1 c2 c3 c4 c5 : PixelCode} {p : Pattern} :
    markerPattern? [c0, c1, c2, c3, c4, c5] = some p ↔
      c0 = 709 ∧ c1 = 314 ∧ 1 ≤ c2.toNat ∧ c2.toNat ≤ 255 ∧ 1 ≤ c4.toNat ∧ c4.toNat ≤ 7 ∧
        c5.toNat = 1023 - c3.toNat ∧
        p = { tag := c2.toNat, kind := .flat, level := c3.toNat,
              channels := ⟨c4.getLsbD 0, c4.getLsbD 1, c4.getLsbD 2⟩ } := by
  have first : c0.toNat = 709 ↔ c0 = 709 := BitVec.toNat_inj (y := 709)
  have second : c1.toNat = 314 ↔ c1 = 314 := BitVec.toNat_inj (y := 314)
  simp only [markerPattern?, Option.ite_none_right_eq_some, Option.map_eq_some_iff, channelSet?_eq_some_iff, first, second]
  constructor
  · rintro ⟨⟨h0, h1, low, high, check⟩, _, ⟨some_set, set_le, rfl⟩, rfl⟩
    exact ⟨h0, h1, low, high, some_set, set_le, check, rfl⟩
  · rintro ⟨h0, h1, low, high, some_set, set_le, check, rfl⟩
    exact ⟨⟨h0, h1, low, high, check⟩, _, ⟨some_set, set_le, rfl⟩, rfl⟩

/-- A marker is of six codes (R95). -/
theorem six_codes_of_markerPattern? {codes : List PixelCode} {p : Pattern} (h : markerPattern? codes = some p) :
    ∃ c0 c1 c2 c3 c4 c5, codes = [c0, c1, c2, c3, c4, c5] := by
  unfold markerPattern? at h
  split at h
  · exact ⟨_, _, _, _, _, _, rfl⟩
  · cases h

/-- Settles O29. -/
theorem sightingsNameTheFramesPattern : Obligations.SightingsNameTheFramesPattern := by
  unfold Obligations.SightingsNameTheFramesPattern
  refine ⟨fun codes p => ⟨fun h => ?_, ?_⟩, fun s f hf => ?_⟩
  · obtain ⟨c0, c1, c2, c3, c4, c5, rfl⟩ := six_codes_of_markerPattern? h
    exact ⟨c0, c1, c2, c3, c4, c5, rfl, markerPattern?_eq_some_iff.mp h⟩
  · rintro ⟨c0, c1, c2, c3, c4, c5, rfl, conditions⟩
    exact markerPattern?_eq_some_iff.mpr conditions
  · have sighting : s.sighting = if f.cutOff then none else
        match f.content with
        | .input i => (markerPattern? i.line0).map (fun p => (p, .external))
        | .generated =>
          match s.generator.shown with
          | some (.test p) => some (p, .internal)
          | _ => none
        | .black => none
        | .blanking => none := by
      unfold State.sighting; rewrite [hf]; rfl
    rw [sighting]
    refine ⟨fun cut => if_pos cut, fun whole i hc => ?_, fun whole hc p shown => ?_, fun whole hc shown => ?_,
      fun hc => ?_⟩
    · rewrite [whole, hc]; rfl
    · rewrite [whole, hc, shown]; rfl
    · rewrite [whole, hc, shown]; rfl
    · rcases hc with hc | hc <;> rw [hc] <;> exact ite_self _

end Sys2Proof.Machine
end

section
/-! PROOFS. The input link (O31), the guard and the gap timer (O32), and the Marker Detector at a frame start and as events
of its own (O30, O33). -/

namespace Sys2Proof.Machine

open Sys2Proof

/-! ## The input link (O31) -/

theorem AttentionUnit.raiseIf_change (a : AttentionUnit) (c old : InputCondition) :
    a.raiseIf (c != old) .input = if c = old then a else a.raise .input := by
  by_cases h : c = old
  · simp [h]
  · rw [if_neg h, bne_iff_ne.mpr h]; rfl

theorem State.signalLost_internal {s : State} (supply : s.pins.supply = true) (source : s.generator.effective = .internal) :
    s.signalLost = { s with
      pins := { s.pins with signal := false }
      timing := { s.timing with condition := .absent }
      attention := if s.timing.condition = .absent then s.attention else s.attention.raise .input } := by
  unfold State.signalLost
  simp only [supply, source, if_true, reduceCtorEq, if_false, State.judgeInput_eq, AttentionUnit.raiseIf_change,
    eq_comm (a := InputCondition.absent)]

theorem State.loseSight_eq (s : State) :
    s.loseSight = { s with
      detector := { s.detector with state := .none }
      queue :=
        match s.detector.state with
        | .held _ _ _ => { s.queue with guard := .stopped }
        | _ => s.queue
      attention :=
        match s.detector.state with
        | .held _ _ _ => s.attention.raise .held
        | _ => s.attention } := by
  unfold State.loseSight
  cases s.detector.state <;> rfl

theorem State.signalLost_external {s : State} (supply : s.pins.supply = true) (source : s.generator.effective = .external) :
    let lost := if s.timing.condition = .absent then s.attention else s.attention.raise .input
    s.signalLost = { s with
      pins := { s.pins with signal := false }
      timing := { s.timing with
        condition := .absent
        source := .internal
        frame := s.timing.frame.map (fun f => { f with cutOff := true })
        internalTail := false }
      detector := { s.detector with state := .none }
      queue :=
        match s.detector.state with
        | .held _ _ _ => { s.queue with guard := .stopped }
        | _ => s.queue
      attention :=
        match s.detector.state with
        | .held _ _ _ => lost.raise .held
        | _ => lost } := by
  unfold State.signalLost
  simp only [supply, source, if_true, State.judgeInput_eq, AttentionUnit.raiseIf_change,
    eq_comm (a := InputCondition.absent), State.loseSight_eq, FrameTiming.cutOff]

theorem exec_inputFrameStart {s : State} {f : InputFrame} (wf : f.wellFormed = true) (supply : s.pins.supply = true)
    (signal : s.pins.signal = true) :
    exec (.inputFrameStart f) s =
      .next (if s.followsInput then s.inputFrame f else s.judgeInput (conditionOf s.engine.latched f)) := by
  refine (whenWellFormed_true (show wellFormed (.inputFrameStart f) = true from wf) _).trans ?_
  simp [State.inputBegins, supply, signal]

theorem conditionOf_eq (latched : Option Descriptor) (f : InputFrame) :
    conditionOf latched f =
      match latched with
      | none => InputCondition.present
      | some d => if f.width = d.width ∧ f.height = d.height then .present else .mismatch := rfl

/-- Settles O31. -/
theorem inputEventsJudgeTheInput : Obligations.InputEventsJudgeTheInput := by
  unfold Obligations.InputEventsJudgeTheInput
  intro s
  refine ⟨rfl, fun signal supply => ?_, fun f wf supply signal => ?_⟩
  · have hx : exec .inputLost s = .next s.signalLost := congrArg Host.Outcome.next (if_pos signal)
    exact ⟨fun source => hx.trans (congrArg _ (State.signalLost_internal supply source)),
      fun source => hx.trans (congrArg _ (State.signalLost_external supply source))⟩
  · have hx := exec_inputFrameStart (s := s) wf supply signal
    refine ⟨fun apart => ?_, fun follows => ?_⟩
    · rewrite [hx, apart, if_neg Bool.false_ne_true, State.judgeInput_eq, AttentionUnit.raiseIf_change]
      rfl
    · rw [follows, if_pos rfl] at hx
      refine ⟨hx.trans (exec_frameStart_input ⟨wf, supply, follows⟩).symm, _, hx, ?_, ?_, fun changed => ?_⟩
      · rewrite [State.inputFrame, State.judgeInput_timing, State.frameStart_timing]; rfl
      · rewrite [State.inputFrame, State.judgeInput_timing, State.judgeInput_engine]; exact conditionOf_eq ..
      · have condition : (s.frameStart (some f)).timing.condition = s.timing.condition := by
          rw [State.frameStart_timing]; rfl
        rw [State.inputFrame, State.judgeInput_timing] at changed
        rw [State.inputFrame, State.judgeInput_attention, condition, bne_iff_ne.mpr changed]
        simp only [AttentionUnit.raiseIf_lineFlags_getLsbD, AttentionUnit.raiseIf_setFlags_getLsbD]
        simp [Flag.bit]

/-! ## The Marker Detector's verdict (R99 to R101) -/

/-- A verdict reports what it does to the detector's state: the ending of a held pattern it leaves, the start of a held
pattern it comes to, which begins with the frame of the given number. -/
structure Verdict.ReportsChange (v : Verdict) (before : Detection) (frame : FrameNumber) : Prop where
  ends_iff : v.ends = true ↔ (∃ p src b, before = .held p src b) ∧ v.state ≠ before
  starts_iff : v.starts = true ↔ (∃ p src b, v.state = .held p src b) ∧ v.state ≠ before
  begins : ∀ p src b, v.state = .held p src b → v.state ≠ before → b = frame

theorem Verdict.reportsChange_unchanged (d : Detection) (frame : FrameNumber) :
    ({ state := d, ends := false, starts := false } : Verdict).ReportsChange d frame :=
  ⟨by simp, by simp, fun _ _ _ _ h => absurd rfl h⟩

theorem Verdict.reportsChange_cleared (d : Detection) (frame : FrameNumber) :
    ({ state := .none, ends := d.heldPattern?.isSome, starts := false } : Verdict).ReportsChange d frame := by
  cases d <;> constructor <;> simp [Detection.heldPattern?]

/-- A new candidate, after a state that holds another pattern or none. -/
theorem newCandidate_reportsChange {d : Detection} {p : Pattern} (src : Source) (settle : Nat) (frame : FrameNumber)
    {ends : Bool} (held : ends = true ↔ ∃ h src b, d = .held h src b) (other : ∀ h src b, d = .held h src b → p ≠ h) :
    (newCandidate p src settle frame ends).ReportsChange d frame := by
  have moves : ∀ b, Detection.held p src b ≠ d := fun b h => other p src b h.symm rfl
  unfold newCandidate
  split
  · refine ⟨?_, ?_, fun q r b h _ => (by cases h; rfl)⟩
    · simp [held, moves]
    · simp [moves]
  · refine ⟨?_, by simp, fun q r b h => nomatch h⟩
    simp only [held, iff_self_and]
    rintro ⟨h, r, b, rfl⟩
    simp

theorem judgeSighting_reportsChange (d : MarkerDetector) (sighting : Option (Pattern × Source)) (step : Nat)
    (frame : FrameNumber) : (judgeSighting d sighting step frame).ReportsChange d.state frame := by
  obtain ⟨state, settle, guard⟩ := d
  cases sighting with
  | none => cases state <;> constructor <;> simp [judgeSighting]
  | some sight =>
    obtain ⟨p, src⟩ := sight
    cases state with
    | none => exact newCandidate_reportsChange src settle frame (by simp) (by simp)
    | settling c csrc acc =>
      simp only [judgeSighting]
      split
      · split
        · constructor <;> simp
        · constructor <;> simp
      · exact newCandidate_reportsChange src settle frame (by simp) (by simp)
    | held h hsrc b =>
      simp only [judgeSighting]
      split
      · exact Verdict.reportsChange_unchanged _ _
      · next other =>
        exact newCandidate_reportsChange src settle frame (by simp) fun _ _ _ e => by cases e; exact other

theorem State.comingVerdict_reportsChange (s : State) : s.comingVerdict.ReportsChange s.detector.state s.comingNumber := by
  unfold State.comingVerdict
  split
  · exact Verdict.reportsChange_cleared _ _
  split
  · exact judgeSighting_reportsChange ..
  · exact Verdict.reportsChange_unchanged _ _

theorem State.remainingVerdict_reportsChange (s : State) :
    s.remainingVerdict.ReportsChange s.detector.state s.comingNumber := by
  unfold State.remainingVerdict
  split
  · next h =>
    split
    · rw [h]; constructor <;> simp
    · exact Verdict.reportsChange_unchanged _ _
  · exact Verdict.reportsChange_unchanged _ _

theorem State.verdictLeft_reportsChange (s : State) : s.verdictLeft.ReportsChange s.detector.state s.comingNumber := by
  unfold State.verdictLeft
  split
  · exact s.comingVerdict_reportsChange
  split
  · exact s.comingVerdict_reportsChange
  · exact s.remainingVerdict_reportsChange
  · exact Verdict.reportsChange_unchanged _ _

/-- Neither report is made where the detector's state stays, or holds no pattern before and after. -/
theorem Verdict.ReportsChange.silent {v : Verdict} {d : Detection} {frame : FrameNumber} (h : v.ReportsChange d frame)
    (quiet : v.state = d ∨ (∀ p src b, d ≠ .held p src b) ∧ ∀ p src b, v.state ≠ .held p src b) :
    v.ends = false ∧ v.starts = false := by
  rw [← Bool.not_eq_true, ← Bool.not_eq_true, h.ends_iff, h.starts_iff]
  rcases quiet with same | ⟨before, after⟩
  · exact ⟨fun x => x.2 same, fun x => x.2 same⟩
  · exact ⟨fun ⟨⟨p, src, b, e⟩, _⟩ => before p src b e, fun ⟨⟨p, src, b, e⟩, _⟩ => after p src b e⟩

/-! ## The conditions of a judgement -/

theorem State.sourceChanges_iff {s : State} : s.sourceChanges = true ↔ s.generator.effective ≠ s.generator.requested :=
  bne_iff_ne

theorem State.sourceChanges_eq_false {s : State} (h : s.generator.effective = s.generator.requested) :
    s.sourceChanges = false := by simp [State.sourceChanges, h]

theorem State.frameJudged_eq_false_iff {s : State} :
    s.frameJudged = false ↔ ∀ f, s.timing.frame = some f → f.begunReady = false := by
  unfold State.frameJudged
  cases s.timing.frame <;> simp

theorem State.frameJudged_of {s : State} {f : Frame} (hf : s.timing.frame = some f) (ready : f.begunReady = true) :
    s.frameJudged = true := by
  unfold State.frameJudged; rw [hf]; exact ready

theorem State.frameStep_of {s : State} {f : Frame} (hf : s.timing.frame = some f) : s.frameStep = f.step := by
  unfold State.frameStep; rw [hf]

/-- The verdict of a frame that is judged (R97, R99). -/
theorem State.comingVerdict_judged {s : State} {f : Frame} (same : s.generator.effective = s.generator.requested)
    (hf : s.timing.frame = some f) (ready : f.begunReady = true) :
    s.comingVerdict = judgeSighting s.detector s.sighting f.step s.comingNumber := by
  rw [State.comingVerdict, if_neg (Bool.eq_false_iff.mp (State.sourceChanges_eq_false same)),
    if_pos (State.frameJudged_of hf ready), State.frameStep_of hf]

/-- A frame that is not judged leaves the detector (R97). -/
theorem State.comingVerdict_unjudged {s : State} (same : s.generator.effective = s.generator.requested)
    (unjudged : ∀ f, s.timing.frame = some f → f.begunReady = false) :
    s.comingVerdict = { state := s.detector.state, ends := false, starts := false } := by
  rw [State.comingVerdict, if_neg (Bool.eq_false_iff.mp (State.sourceChanges_eq_false same)),
    if_neg (Bool.eq_false_iff.mp (State.frameJudged_eq_false_iff.mpr unjudged))]

end Sys2Proof.Machine
end

section
/-! PROOFS. The guard and the gap timer (O32), the Marker Detector at a frame start (O30), and the starts and ends of holding
as events of their own (O33). -/

namespace Sys2Proof.Machine

open Sys2Proof

/-! ## The timers (O32) -/

theorem exec_guardExpiry_running {s : State} {acc : Nat} (supply : s.pins.supply = true)
    (running : s.queue.guard = .running acc) :
    exec .guardExpiry s =
      .next (if s.book.guardFresh = false ∧ s.detector.guardTime ≤ acc + s.comingStep then s.withGuard .stopped else s) := by
  have due : s.guardDue = true ↔ s.book.guardFresh = false ∧ s.detector.guardTime ≤ acc + s.comingStep := by
    simp [State.guardDue, running, supply]
  exact congrArg Host.Outcome.next (if_congr due rfl rfl)

theorem exec_gapExpiry_loading {s : State} {l : LoadingContext} (supply : s.pins.supply = true)
    (loading : s.creds.loading = some l) :
    exec .gapExpiry s = .next (if 2000 ≤ l.gap + s.comingStep then s.abandonLoad l else s) := by
  have due : s.gapDue? = if 2000 ≤ l.gap + s.comingStep then some l else none := by
    unfold State.gapDue?
    rewrite [loading]
    exact if_congr (and_iff_right supply) rfl rfl
  refine congrArg Host.Outcome.next ?_
  rw [due]
  by_cases reached : 2000 ≤ l.gap + s.comingStep
  · rewrite [if_pos reached, if_pos reached]; rfl
  · rewrite [if_neg reached, if_neg reached]; rfl

/-- A cadence of three steps repeats, so that `n` rounds from any phase sum to `n` times a round (R112). -/
theorem sum_rounds (step : Nat → Nat) (phase n : Nat) :
    ((List.range (3 * n)).map (fun k => step ((phase + k) % 3))).sum = n * (step 0 + step 1 + step 2) := by
  induction n with
  | zero => simp
  | succ n ih =>
    have around (j : Nat) : (phase + (3 * n + j)) % 3 = (phase + j) % 3 := by omega
    have round : step (phase % 3) + step ((phase + 1) % 3) + step ((phase + 2) % 3) = step 0 + step 1 + step 2 := by
      have cases : phase % 3 = 0 ∨ phase % 3 = 1 ∨ phase % 3 = 2 := by omega
      rcases cases with h | h | h <;> rw [Nat.add_mod phase 1, Nat.add_mod phase 2, h] <;>
        simp only [Nat.reduceAdd, Nat.reduceMod] <;> omega
    rw [show 3 * (n + 1) = 3 * n + 1 + 1 + 1 from rfl, List.range_succ, List.range_succ, List.range_succ]
    simp only [List.map_append, List.sum_append, List.map_cons, List.map_nil, List.sum_cons, List.sum_nil, ih,
      around]
    have first := around 0
    simp only [Nat.add_zero] at first
    rw [first, Nat.succ_mul]
    omega

/-- Every 120 consecutive F60 steps sum to 2000 ms, 100 F50 steps and 240 F120 steps as well (R112). -/
theorem cadences_sum (phase : Fin 3) :
    ((List.range 120).map (fun k => Family.f60.stepAt ((phase + k) % 3))).sum = 2000 ∧
    ((List.range 100).map (fun _ => Family.f50.stepAt 0)).sum = 2000 ∧
    ((List.range 240).map (fun k => Family.f120.stepAt ((phase + k) % 3))).sum = 2000 :=
  ⟨sum_rounds Family.f60.stepAt phase 40, by simp [Family.stepAt, Family.steps], sum_rounds Family.f120.stepAt phase 80⟩

/-- The guard a frame start leaves where it reports nothing of holding (R51). -/
theorem State.frameStart_guard_silent {s : State} (input : Option InputFrame)
    (silent : s.verdictLeft.ends = false ∧ s.verdictLeft.starts = false) :
    (s.frameStart input).queue.guard = (s.addGuard s.comingStep).queue.guard := by
  rw [State.frameStart_queue]
  simp [silent]

/-- Settles O32. -/
theorem guardAndGapTimersRunAndExpire : Obligations.GuardAndGapTimersRunAndExpire := by
  unfold Obligations.GuardAndGapTimersRunAndExpire
  refine ⟨fun s supply => ⟨fun acc running => ?_, fun stopped => ?_, fun l loading => ?_, fun idle => ?_⟩,
    cadences_sum, fun s o h => ?_⟩
  · rw [exec_guardExpiry_running supply running]
    refine ⟨fun old reached => congrArg _ (if_pos ⟨old, reached⟩), fun going => congrArg _ (if_neg ?_)⟩
    rintro ⟨old, reached⟩
    rcases going with fresh | short
    · exact Bool.false_ne_true (old.symm.trans fresh)
    · omega
  · exact congrArg Host.Outcome.next (if_neg (by simp [State.guardDue, stopped]))
  · rw [exec_gapExpiry_loading supply loading]
    exact ⟨fun reached => congrArg _ (if_pos reached), fun short => congrArg _ (if_neg (Nat.not_le.mpr short))⟩
  · have none_due : s.gapDue? = none := by unfold State.gapDue?; rewrite [idle]; rfl
    refine congrArg Host.Outcome.next ?_
    rw [none_due]
  · obtain ⟨c, b, hx⟩ := exec_frameStart h
    refine ⟨_, _, hx, State.frameStart_frame .., rfl, fun quiet => ?_, fun l loading => ?_⟩
    · have silent := s.verdictLeft_reportsChange.silent (by simpa using quiet)
      dsimp only
      rw [State.frameStart_guard_silent _ silent, State.addGuard_queue]
      refine ⟨fun stopped => ?_, fun acc running => ⟨fun old => ?_, fun fresh => ?_⟩⟩
      · rewrite [stopped]; rfl
      · rewrite [running, old]; rfl
      · rewrite [running, fresh]; rfl
    · have creds := s.addGap_creds s.comingStep
      rw [loading] at creds
      dsimp only at creds ⊢
      rw [State.frameStart_creds, creds, State.frameStart_attention]
      refine ⟨fun short => if_neg (Nat.not_le.mpr short), fun reached => ⟨if_pos reached, ?_⟩⟩
      have ends : s.gapEnds = true := by
        unfold State.gapEnds; rewrite [loading]; exact decide_eq_true reached
      simp only [AttentionUnit.raiseIf_lineFlags_getLsbD, AttentionUnit.raiseIf_setFlags_getLsbD]
      simp [ends, Flag.bit]

/-! ## The Marker Detector at a frame start (O30) -/

/-- Where a new candidate is taken, the detector settles on it, or holds it at once under a settle time of 0 (R99, R100). -/
theorem newCandidate_state (p : Pattern) (src : Source) (settle : Nat) (frame : FrameNumber) (ends : Bool) :
    (newCandidate p src settle frame ends).state =
      if settle = 0 then Detection.held p src frame else Detection.settling p src 0 := by
  unfold newCandidate; split <;> rfl

/-- The detector's state after a judgement (R99, R100). -/
theorem judgeSighting_state (d : MarkerDetector) (sighting : Option (Pattern × Source)) (step : Nat) (frame : FrameNumber) :
    (judgeSighting d sighting step frame).state =
      let fresh := fun (p : Pattern) (src : Source) =>
        if d.settleTime = 0 then Detection.held p src frame else Detection.settling p src 0
      match d.state, sighting with
      | _, none => .none
      | .none, some (p, src) => fresh p src
      | .settling c csrc acc, some (p, src) =>
        if p = c then
          if d.settleTime ≤ acc + step then .held c csrc frame else .settling c csrc (acc + step)
        else fresh p src
      | .held h hsrc b, some (p, src) => if p = h then .held h hsrc b else fresh p src := by
  obtain ⟨state, settle, guard⟩ := d
  cases sighting with
  | none => cases state <;> rfl
  | some sight =>
    obtain ⟨p, src⟩ := sight
    cases state with
    | none => exact newCandidate_state ..
    | settling c csrc acc =>
      simp only [judgeSighting]
      split
      · split <;> rfl
      · exact newCandidate_state ..
    | held h hsrc b =>
      simp only [judgeSighting]
      split
      · rfl
      · exact newCandidate_state ..

theorem State.remainingVerdict_state (s : State) :
    s.remainingVerdict.state =
      match s.detector.state with
      | .settling p src 0 =>
        if s.detector.settleTime = 0 then Detection.held p src s.comingNumber else Detection.settling p src 0
      | other => other := by
  unfold State.remainingVerdict
  cases hs : s.detector.state with
  | none => rfl
  | held p src b => rfl
  | settling p src acc =>
    cases acc with
    | zero => exact apply_ite Verdict.state ..
    | succ n => rfl

/-- HELD attention at a frame start is raised by the reports of holding alone (R103). -/
theorem State.frameStart_held_flags (s : State) (input : Option InputFrame) (b : Bool) :
    ((s.frameStart input).attention.raiseIf b .input).lineFlags.getLsbD 0 =
        (s.attention.lineFlags.getLsbD 0 || (s.verdictLeft.ends || s.verdictLeft.starts)) ∧
      ((s.frameStart input).attention.raiseIf b .input).setFlags.getLsbD 0 =
        (s.attention.setFlags.getLsbD 0 || (s.verdictLeft.ends || s.verdictLeft.starts)) := by
  rw [State.frameStart_attention]
  simp only [AttentionUnit.raiseIf_lineFlags_getLsbD, AttentionUnit.raiseIf_setFlags_getLsbD]
  simp [Flag.bit, Bool.or_assoc]

/-- Settles O30. -/
theorem frameStartJudgesTheSighting : Obligations.FrameStartJudgesTheSighting := by
  unfold Obligations.FrameStartJudgesTheSighting
  intro s o h
  obtain ⟨c, b, hx⟩ := exec_frameStart h
  obtain ⟨lineFlag, setFlag⟩ := s.frameStart_held_flags (inputOf o) b
  have reports := s.verdictLeft_reportsChange
  refine ⟨_, hx, ?_⟩
  dsimp only
  rw [State.frameStart_book, State.frameStart_detector, State.frameStart_queue, lineFlag, setFlag]
  refine ⟨rfl, rfl, fun changes => ?_, fun same taken => ?_, fun same endTaken => ?_, fun same whole unjudged => ?_,
    fun same whole f hf ready => ?_, fun p src b held moved => ?_, fun p src b held moved => ?_, fun quiet => ?_⟩
  · rw [State.verdictLeft_sourceChanges s (State.sourceChanges_iff.mpr changes)]
  · rw [State.verdictLeft_taken s (State.sourceChanges_eq_false same) taken]
  · rewrite [State.verdictLeft_endTaken s (State.sourceChanges_eq_false same) endTaken, State.remainingVerdict_state]
    rfl
  · rw [State.verdictLeft_notTaken s whole, State.comingVerdict_unjudged same unjudged]
  · rewrite [State.verdictLeft_notTaken s whole, State.comingVerdict_judged same hf ready, judgeSighting_state]
    rfl
  · have ends := reports.ends_iff.mpr ⟨⟨p, src, b, held⟩, moved⟩
    refine ⟨by simp [ends], by simp [ends], fun other => ?_⟩
    have quiet : ¬s.verdictLeft.starts = true := fun starts => by
      obtain ⟨⟨q, r, e, he⟩, _⟩ := reports.starts_iff.mp starts
      exact other q r e he
    rw [if_neg quiet, if_pos ends]
  · have starts := reports.starts_iff.mpr ⟨⟨p, src, b, held⟩, moved⟩
    exact ⟨reports.begins p src b held moved, by simp [starts], by simp [starts], if_pos starts⟩
  · obtain ⟨ends, starts⟩ := reports.silent quiet
    simp [ends, starts]

/-! ## Starts and ends of holding as events of their own (O33) -/

/-- HOLDING_END where the coming frame start's verdict ends holding (R103). -/
theorem exec_holdingEnd_due {s : State} (supply : s.pins.supply = true) (whole : s.book.judgement = .notTaken)
    (ends : s.comingVerdict.ends = true) :
    exec .holdingEnd s = .next { s with
      detector := { s.detector with state := s.comingVerdict.afterEnd }
      attention := s.attention.raise .held
      queue := { s.queue with guard := .stopped }
      book := { s.book with judgement := if s.comingVerdict.starts then .endTaken else .taken } } := by
  have due : s.endDue = true := by simp [State.endDue, supply, whole, ends]
  exact congrArg Host.Outcome.next (if_pos due)

/-- HOLDING_START where what is left of the judgement starts holding and ends none (R100, R103). -/
theorem exec_holdingStart_due {s : State} {p : Pattern} {src : Source} {b : FrameNumber} (supply : s.pins.supply = true)
    (left : s.book.judgement ≠ .taken)
    (starts : s.verdictLeft = { state := .held p src b, ends := false, starts := true }) :
    exec .holdingStart s = .next { s with
      detector := { s.detector with state := .held p src b }
      attention := s.attention.raise .held
      queue := { s.queue with guard := if s.detector.guardTime = 0 then .stopped else .running 0 }
      book := { s.book with judgement := .taken, guardFresh := true } } := by
  have due : s.startDue = true := by simp [State.startDue, supply, left, starts]
  refine congrArg Host.Outcome.next ((if_pos due).trans ?_)
  rw [State.takeStart, starts]
  rfl

theorem exec_holdingEnd_undue {s : State}
    (undue : s.pins.supply = false ∨ s.book.judgement ≠ .notTaken ∨ s.comingVerdict.ends = false) :
    exec .holdingEnd s = .next s := by
  have due : s.endDue = false := by
    rcases undue with off | taken | quiet
    · simp [State.endDue, off]
    · simp [State.endDue, taken]
    · simp [State.endDue, quiet]
  exact congrArg Host.Outcome.next (if_neg (Bool.eq_false_iff.mp due))

theorem exec_holdingStart_undue {s : State}
    (undue : s.pins.supply = false ∨ s.book.judgement = .taken ∨ s.verdictLeft.starts = false ∨ s.verdictLeft.ends = true) :
    exec .holdingStart s = .next s := by
  have due : s.startDue = false := by
    rcases undue with off | taken | quiet | ends
    · simp [State.startDue, off]
    · simp [State.startDue, taken]
    · simp [State.startDue, quiet]
    · simp [State.startDue, ends]
  exact congrArg Host.Outcome.next (if_neg (Bool.eq_false_iff.mp due))

/-- What follows a new candidate: held at once and a start under a settle time of 0, else settling (R99, R100). -/
theorem newCandidate_at_once (p : Pattern) (src : Source) (frame : FrameNumber) (ends : Bool) :
    newCandidate p src 0 frame ends = { state := .held p src frame, ends := ends, starts := true } := if_pos rfl

theorem newCandidate_settling {settle : Nat} (h : settle ≠ 0) (p : Pattern) (src : Source) (frame : FrameNumber)
    (ends : Bool) :
    newCandidate p src settle frame ends = { state := .settling p src 0, ends := ends, starts := false } := if_neg h

/-- Where a new candidate ends holding, HOLDING_END leaves it settling from 0, and its start to be taken under a settle
time of 0 (R103). -/
theorem newCandidate_afterEnd (p : Pattern) (src : Source) (settle : Nat) (frame : FrameNumber) :
    (newCandidate p src settle frame true).ends = true ∧
      (newCandidate p src settle frame true).afterEnd = .settling p src 0 ∧
      (newCandidate p src settle frame true).starts = (settle == 0) := by
  by_cases h : settle = 0
  · subst h; exact ⟨rfl, rfl, rfl⟩
  · rw [newCandidate_settling h]
    exact ⟨rfl, rfl, (beq_eq_false_iff_ne.mpr h).symm⟩

theorem judgeSighting_new {d : MarkerDetector} {p : Pattern} (src : Source) (step : Nat) (frame : FrameNumber)
    (fresh : d.state = .none ∨ ∃ c csrc acc, d.state = .settling c csrc acc ∧ p ≠ c) :
    judgeSighting d (some (p, src)) step frame = newCandidate p src d.settleTime frame false := by
  unfold judgeSighting
  rcases fresh with none | ⟨c, csrc, acc, settling, other⟩
  · rewrite [none]; rfl
  · rewrite [settling]; exact if_neg other

theorem judgeSighting_other {d : MarkerDetector} {h p : Pattern} {hsrc : Source} {b : FrameNumber} (src : Source)
    (step : Nat) (frame : FrameNumber) (held : d.state = .held h hsrc b) (other : p ≠ h) :
    judgeSighting d (some (p, src)) step frame = newCandidate p src d.settleTime frame true := by
  unfold judgeSighting
  rewrite [held]
  exact if_neg other

theorem judgeSighting_unseen (d : MarkerDetector) (step : Nat) (frame : FrameNumber) :
    judgeSighting d none step frame = { state := .none, ends := d.state.heldPattern?.isSome, starts := false } := by
  unfold judgeSighting
  cases d.state <;> rfl

theorem judgeSighting_again {d : MarkerDetector} {h : Pattern} {hsrc : Source} {b : FrameNumber} (src : Source)
    (step : Nat) (frame : FrameNumber) (held : d.state = .held h hsrc b) :
    judgeSighting d (some (h, src)) step frame = { state := .held h hsrc b, ends := false, starts := false } := by
  unfold judgeSighting
  rewrite [held]
  exact if_pos rfl

theorem judgeSighting_short {d : MarkerDetector} {c : Pattern} {src : Source} {acc : Nat} (src' : Source) {step : Nat}
    (frame : FrameNumber) (settling : d.state = .settling c src acc) (short : acc + step < d.settleTime) :
    judgeSighting d (some (c, src')) step frame =
      { state := .settling c src (acc + step), ends := false, starts := false } := by
  unfold judgeSighting
  rewrite [settling]
  exact (if_pos rfl).trans (if_neg (Nat.not_le.mpr short))

theorem judgeSighting_settled {d : MarkerDetector} {c : Pattern} {src : Source} {acc : Nat} (src' : Source)
    (step : Nat) (frame : FrameNumber) (settling : d.state = .settling c src acc) (reached : d.settleTime ≤ acc + step) :
    judgeSighting d (some (c, src')) step frame = { state := .held c src frame, ends := false, starts := true } := by
  unfold judgeSighting
  rewrite [settling]
  exact (if_pos rfl).trans (if_pos reached)

/-- Under a settle time other than 0 only the candidate's own sighting starts holding (R100). -/
theorem judgeSighting_starts_eq_false {d : MarkerDetector} (sighting : Option (Pattern × Source)) (step : Nat)
    (frame : FrameNumber) (settle : d.settleTime ≠ 0)
    (other : ∀ c src acc src', d.state = .settling c src acc → sighting ≠ some (c, src')) :
    (judgeSighting d sighting step frame).starts = false := by
  cases sighting with
  | none => rw [judgeSighting_unseen]
  | some sight =>
    obtain ⟨p, src'⟩ := sight
    cases state : d.state with
    | none => rw [judgeSighting_new src' step frame (.inl state), newCandidate_settling settle]
    | settling c csrc acc =>
      have new : p ≠ c := fun same => other c csrc acc src' state (by rw [same])
      rw [judgeSighting_new src' step frame (.inr ⟨c, csrc, acc, state, new⟩), newCandidate_settling settle]
    | held h hsrc b =>
      by_cases same : p = h
      · subst same; rw [judgeSighting_again src' step frame state]
      · rw [judgeSighting_other src' step frame state same, newCandidate_settling settle]

theorem State.verdictLeft_whole {s : State} {f : Frame} (same : s.generator.effective = s.generator.requested)
    (whole : s.book.judgement = .notTaken) (hf : s.timing.frame = some f) (ready : f.begunReady = true) :
    s.verdictLeft = judgeSighting s.detector s.sighting f.step s.comingNumber := by
  rw [State.verdictLeft_notTaken s whole, State.comingVerdict_judged same hf ready]

/-- The start that a HOLDING_END has left (R100, R103). -/
theorem State.remainingVerdict_left {s : State} {p : Pattern} {src : Source} (settle : s.detector.settleTime = 0)
    (settling : s.detector.state = .settling p src 0) :
    s.remainingVerdict = { state := .held p src s.comingNumber, ends := false, starts := true } := by
  unfold State.remainingVerdict
  rewrite [settling]
  exact if_pos settle

theorem State.remainingVerdict_starts_eq_false {s : State}
    (spent : s.detector.settleTime ≠ 0 ∨ ∀ p src, s.detector.state ≠ .settling p src 0) :
    s.remainingVerdict.starts = false := by
  unfold State.remainingVerdict
  split
  · next p src settling =>
    rcases spent with settle | other
    · rw [if_neg settle]
    · exact absurd settling (other p src)
  · rfl

/-- Holding goes on while no source changes and the frame in progress is not judged or shows the held pattern (R97, R99). -/
theorem State.comingVerdict_ends_eq_false {s : State} (same : s.generator.effective = s.generator.requested)
    (goes : (∀ f, s.timing.frame = some f → f.begunReady = false) ∨
      ∃ h src b src', s.detector.state = .held h src b ∧ s.sighting = some (h, src')) :
    s.comingVerdict.ends = false := by
  cases judged : s.frameJudged with
  | false => rw [State.comingVerdict_unjudged same (State.frameJudged_eq_false_iff.mp judged)]
  | true =>
    obtain unjudged | ⟨h, src, b, src', held, sight⟩ := goes
    · rw [State.frameJudged_eq_false_iff.mpr unjudged] at judged
      cases judged
    · rw [State.comingVerdict, if_neg (Bool.eq_false_iff.mp (State.sourceChanges_eq_false same)), if_pos judged,
        sight, judgeSighting_again src' _ _ held]

/-- No holding starts, or an ending goes before it: nothing of the conditions of R99 and R100 holds. -/
theorem State.comingVerdict_starts_not {s : State}
    (idle : (∀ f, s.timing.frame = some f → f.begunReady = false) ∨ s.sighting = none ∨
      (∃ h src b, s.detector.state = .held h src b) ∨
      (s.detector.settleTime ≠ 0 ∧ ∀ c src acc src', s.detector.state = .settling c src acc →
        s.sighting ≠ some (c, src')) ∨
      ∃ c src acc src' f, s.detector.state = .settling c src acc ∧ s.sighting = some (c, src') ∧
        s.timing.frame = some f ∧ acc + f.step < s.detector.settleTime) :
    s.comingVerdict.starts = false ∨ s.comingVerdict.ends = true := by
  have reports := s.comingVerdict_reportsChange
  unfold State.comingVerdict
  split
  · exact .inl rfl
  split
  · next judged =>
    obtain unjudged | none | ⟨h, src, b, held⟩ | ⟨settle, other⟩ | ⟨c, src, acc, src', f, settling, sight, hf, short⟩ :=
      idle
    · rw [State.frameJudged_eq_false_iff.mpr unjudged] at judged
      cases judged
    · left
      rw [none, judgeSighting_unseen]
    · cases sight : s.sighting with
      | none => left; rw [judgeSighting_unseen]
      | some q =>
        obtain ⟨p, src'⟩ := q
        by_cases again : p = h
        · left; subst again; rw [judgeSighting_again src' _ _ held]
        · right; rw [judgeSighting_other src' _ _ held again]; exact (newCandidate_afterEnd ..).1
    · exact .inl (judgeSighting_starts_eq_false _ _ _ settle other)
    · left
      rw [sight, State.frameStep_of hf, judgeSighting_short src' _ settling short]
  · exact .inl rfl

/-- Settles O33. -/
theorem holdingStartsAndEnds : Obligations.HoldingStartsAndEnds := by
  unfold Obligations.HoldingStartsAndEnds
  refine ⟨fun s supply whole => ⟨?_, ?_, ?_⟩, ?_, ?_⟩
  · intro c src src' acc f settling same hf ready sight reached
    refine exec_holdingStart_due supply (by simp [whole]) ?_
    rw [State.verdictLeft_whole same whole hf ready, sight, judgeSighting_settled _ _ _ settling reached]
    rfl
  · intro h src b held gone
    have lost : s.comingVerdict = { state := .none, ends := true, starts := false } := by
      by_cases same : s.generator.effective = s.generator.requested
      · obtain changes | ⟨f, hf, ready, unseen⟩ := gone
        · exact absurd same changes
        · rw [State.comingVerdict_judged same hf ready, unseen, judgeSighting_unseen, held]
          rfl
      · rw [State.comingVerdict, if_pos (State.sourceChanges_iff.mpr same), held]
        rfl
    refine (exec_holdingEnd_due supply whole (by rw [lost])).trans ?_
    rw [lost]
    rfl
  · intro h src b f p src' held same hf ready sight other
    have verdict : s.comingVerdict = newCandidate p src' s.detector.settleTime s.comingNumber true := by
      rw [State.comingVerdict_judged same hf ready, sight, judgeSighting_other _ _ _ held other]
    obtain ⟨ends, left, starts⟩ := newCandidate_afterEnd p src' s.detector.settleTime s.comingNumber
    refine (exec_holdingEnd_due supply whole (by rw [verdict, ends])).trans ?_
    simp only [verdict, left, starts, beq_iff_eq]
  · intro s p src supply same settle due
    obtain ⟨whole, ⟨f, hf, ready⟩, sight, fresh⟩ | ⟨endTaken, settling⟩ := due
    · refine exec_holdingStart_due supply (by simp [whole]) ?_
      rw [State.verdictLeft_whole same whole hf ready, sight, judgeSighting_new src _ _ fresh, settle,
        newCandidate_at_once]
      rfl
    · refine exec_holdingStart_due supply (by simp [endTaken]) ?_
      rw [State.verdictLeft_endTaken s (State.sourceChanges_eq_false same) endTaken,
        State.remainingVerdict_left settle settling]
      rfl
  · intro s unjudged same
    refine ⟨fun undue => exec_holdingEnd_undue ?_, fun undue => exec_holdingStart_undue ?_⟩
    · obtain off | taken | unheld | ⟨same, goes⟩ := undue
      · exact .inl off
      · exact .inr (.inl taken)
      · refine .inr (.inr (Bool.eq_false_iff.mpr fun ends => ?_))
        obtain ⟨⟨h, src, b, held⟩, _⟩ := s.comingVerdict_reportsChange.ends_iff.mp ends
        exact unheld h src b held
      · exact .inr (.inr (State.comingVerdict_ends_eq_false same goes))
    · by_cases source : s.generator.effective = s.generator.requested
      · obtain off | taken | changes | ⟨endTaken, spent⟩ | ⟨whole, idle⟩ := undue
        · exact .inl off
        · exact .inr (.inl taken)
        · exact absurd source changes
        · rw [State.verdictLeft_endTaken s (State.sourceChanges_eq_false source) endTaken]
          exact .inr (.inr (.inl (State.remainingVerdict_starts_eq_false spent)))
        · rw [State.verdictLeft_notTaken s whole]
          exact .inr (.inr (State.comingVerdict_starts_not idle))
      · rw [State.verdictLeft_sourceChanges s (State.sourceChanges_iff.mpr source)]
        exact .inr (.inr (.inl rfl))

end Sys2Proof.Machine
end

section
/-! PROOFS. The decision on application at a frame start, the dirty flag of an entry and the judgement of ALL_CONVERGED
(O26). -/

namespace Sys2Proof.Machine

open Sys2Proof

/-! ## The dirty flag of an entry (R12) -/

/-- What of a record the dirty flag watches: its trims, state and hits (R12). -/
def KnotRecord.watched (r : KnotRecord) : Rgb Int × KnotState × Rgb Nat := (r.trim, r.state, r.hits)

/-- What of the record at a place the dirty flag watches. -/
def Application.watchedAt (a : Application) (i : Nat) : Option (Rgb Int × KnotState × Rgb Nat) :=
  a.grid.records[i]?.map KnotRecord.watched

theorem KnotRecord.watched_ne_iff {old new : KnotRecord} :
    new.watched ≠ old.watched ↔ new.trim ≠ old.trim ∨ new.state ≠ old.state ∨ new.hits ≠ old.hits := by
  simp only [KnotRecord.watched, ne_eq, Prod.mk.injEq]
  tauto

/-- From one application to another over as many records, the dirty flag is set when a watched part changes (R12). -/
def Application.DirtyFollows (a b : Application) : Prop :=
  b.dirty = true ↔ a.dirty = true ∨ ∃ i, b.watchedAt i ≠ a.watchedAt i

theorem Application.dirtyFollows_refl (a : Application) : a.DirtyFollows a := by
  simp [Application.DirtyFollows]

theorem Application.update_watchedAt_other {a : Application} {d : Descriptor} {p r c i : Nat}
    {f : KnotRecord → Option KnotRecord} (hi : i ≠ d.index p r c) : (a.update d p r c f).watchedAt i = a.watchedAt i :=
  congrArg (Option.map KnotRecord.watched) (Application.update_other hi)

theorem Application.update_dirtyFollows (a : Application) (d : Descriptor) (p r c : Nat)
    (f : KnotRecord → Option KnotRecord) : a.DirtyFollows (a.update d p r c f) := by
  obtain e | ⟨old, new, found, _, e⟩ := a.update_cases d p r c f
  · rw [e]; exact a.dirtyFollows_refl
  · have inside : d.index p r c < a.grid.records.length := (List.getElem?_eq_some_iff.mp found).1
    have here : (a.update d p r c f).watchedAt (d.index p r c) = some new.watched := by
      rw [e]; simp [Application.watchedAt, inside]
    have before : a.watchedAt (d.index p r c) = some old.watched := by simp [Application.watchedAt, found]
    have dirty : (a.update d p r c f).dirty = (a.dirty || old.differs new) := by rw [e]
    rw [Application.DirtyFollows, dirty, Bool.or_eq_true, KnotRecord.differs_iff, ← KnotRecord.watched_ne_iff]
    refine or_congr_right ⟨fun changed => ⟨d.index p r c, ?_⟩, fun ⟨i, changed⟩ => ?_⟩
    · rw [here, before]
      exact fun same => changed (Option.some.inj same)
    · by_cases place : i = d.index p r c
      · rw [place, here, before] at changed
        exact fun same => changed (congrArg some same)
      · exact absurd (Application.update_watchedAt_other place) changed

/-- Two changes, the second of which leaves what the first has changed: together they are watched as each is. -/
theorem Application.DirtyFollows.trans {a b c : Application} (first : a.DirtyFollows b) (second : b.DirtyFollows c)
    (apart : ∀ i, b.watchedAt i ≠ a.watchedAt i → c.watchedAt i = b.watchedAt i) : a.DirtyFollows c := by
  unfold Application.DirtyFollows at first second ⊢
  rw [second, first, or_assoc]
  refine or_congr_right ⟨?_, fun ⟨i, changed⟩ => ?_⟩
  · rintro (⟨i, changed⟩ | ⟨i, changed⟩)
    · exact ⟨i, by rw [apart i changed]; exact changed⟩
    · refine ⟨i, fun same => changed ?_⟩
      by_contra moved
      have stays : b.watchedAt i = a.watchedAt i := by
        by_contra changed
        exact moved (apart i changed)
      exact moved (same.trans stays.symm)
  · by_cases early : b.watchedAt i = a.watchedAt i
    · exact .inr ⟨i, by rw [early]; exact changed⟩
    · exact .inl ⟨i, early⟩

/-- A sweep of record changes sets the dirty flag when it changes a watched part, provided that a record which a step has
settled is left so by every later step. -/
theorem Application.fold_dirtyFollows {α : Type} (d : Descriptor) (plane row column : α → Nat)
    (change : Application → α → KnotRecord → Option KnotRecord) (settled : α → Application → Prop) (l : List α)
    (settles : ∀ a : Application, ∀ x ∈ l, settled x (a.update d (plane x) (row x) (column x) (change a x)))
    (keeps : l.Pairwise fun x y => ∀ a : Application, settled x a →
      settled x (a.update d (plane y) (row y) (column y) (change a y)) ∧
        (a.update d (plane y) (row y) (column y) (change a y)).watchedAt (d.index (plane x) (row x) (column x)) =
          a.watchedAt (d.index (plane x) (row x) (column x)))
    (a : Application) :
    a.DirtyFollows (l.foldl (fun a x => a.update d (plane x) (row x) (column x) (change a x)) a) := by
  induction l generalizing a with
  | nil => exact a.dirtyFollows_refl
  | cons x l ih =>
    obtain ⟨later, rest⟩ := List.pairwise_cons.mp keeps
    let b := a.update d (plane x) (row x) (column x) (change a x)
    refine (a.update_dirtyFollows d _ _ _ _).trans (ih (fun a y hy => settles a y (.tail _ hy)) rest b) fun i changed => ?_
    by_cases place : i = d.index (plane x) (row x) (column x)
    · rw [place]
      exact (Application.fold_keeps
        (fun c => settled x c ∧ c.watchedAt (d.index (plane x) (row x) (column x)) =
          b.watchedAt (d.index (plane x) (row x) (column x))) l _
        (fun c y hy hc => ⟨(later y hy c hc.1).1, (later y hy c hc.1).2.trans hc.2⟩) b ⟨settles a x (.head _), rfl⟩).2
    · exact absurd (Application.update_watchedAt_other place) changed

/-- What a change of one record makes of each place. -/
theorem Application.update_getElem? (a : Application) (d : Descriptor) (p r c i : Nat)
    (f : KnotRecord → Option KnotRecord) :
    (a.update d p r c f).grid.records[i]? =
      if i = d.index p r c then a.grid.records[i]?.map (fun k => (f k).getD k) else a.grid.records[i]? := by
  split
  · next place =>
    subst place
    cases found : a.grid.records[d.index p r c]? with
    | none =>
      rw [Option.map_none, List.getElem?_eq_none_iff, Application.update_length]
      exact List.getElem?_eq_none_iff.mp found
    | some old => exact Application.update_self found
  · next place => exact Application.update_other place

/-- A sweep whose change goes by the record alone, and which has nothing more to do where it has been. -/
theorem Application.sweep_dirtyFollows {α : Type} {d : Descriptor} {plane row column : α → Nat}
    {change : KnotRecord → Option KnotRecord} (done : KnotRecord → Prop) {l : List α}
    (reaches : ∀ r, done ((change r).getD r))
    (idle : ∀ r, done r → ((change r).getD r).watched = r.watched) (a : Application) :
    a.DirtyFollows (l.foldl (fun a x => a.update d (plane x) (row x) (column x) change) a) := by
  refine Application.fold_dirtyFollows d plane row column (fun _ _ => change)
    (fun x a => ∀ r, a.grid.records[d.index (plane x) (row x) (column x)]? = some r → done r) l
    (fun a x _ r hr => ?_) (List.pairwise_of_forall fun x y a settled => ⟨fun r hr => ?_, ?_⟩) a
  · rw [Application.update_getElem?, if_pos rfl, Option.map_eq_some_iff] at hr
    obtain ⟨old, -, rfl⟩ := hr
    exact reaches old
  · rw [Application.update_getElem?] at hr
    split at hr
    · obtain ⟨old, -, rfl⟩ := Option.map_eq_some_iff.mp hr
      exact reaches old
    · exact settled r hr
  · rw [Application.watchedAt, Application.update_getElem?]
    split
    · cases found : a.grid.records[d.index (plane x) (row x) (column x)]? with
      | none => simp [Application.watchedAt, found]
      | some old => simp [Application.watchedAt, found, idle old (settled old found)]
    · rfl

/-- The records of one knot on two planes are two records. -/
theorem Descriptor.index_plane_inj {d : Descriptor} {p q r c : Nat} (h : d.index p r c = d.index q r c) : p = q := by
  have rows : 0 < d.rows := Nat.succ_pos _
  have columns : 0 < d.columns := Nat.succ_pos _
  simp only [Descriptor.index, Nat.add_right_cancel_iff, Nat.mul_right_cancel_iff columns,
    Nat.mul_right_cancel_iff rows] at h
  exact h

/-- Every entry sets the dirty flag exactly where it changes a record's trims, state or hits (R12). -/
theorem Application.apply_dirtyFollows (d : Descriptor) (frame : FrameNumber) (a : Application) (e : Entry) :
    a.DirtyFollows (a.apply d frame e) := by
  cases e with
  | write c r p v =>
    simp only [Application.apply]
    split
    · exact a.dirtyFollows_refl
    · split
      · exact a.update_dirtyFollows d p r c _
      · exact a.dirtyFollows_refl
  | adjust c r p v =>
    simp only [Application.apply]
    split
    · exact a.dirtyFollows_refl
    · split
      · exact Application.update_dirtyFollows { a with reply := _ } d p r c _
      · exact a.dirtyFollows_refl
  | converge c r p t x l st => exact a.update_dirtyFollows d p r c _
  | pinArea c0 r0 c1 r1 ps =>
    refine Application.sweep_dirtyFollows (fun k => k.state = .pinned ∨ k.state = .retired) (fun k => ?_)
      (fun k hk => ?_) a
    · by_cases retired : k.state = .retired <;> simp [retired, KnotRecord.pinned]
    · rcases hk with pinned | retired
      · simp [pinned, KnotRecord.pinned, KnotRecord.watched]
      · simp [retired]
  | unpinArea c0 r0 c1 r1 ps =>
    refine Application.sweep_dirtyFollows (fun k => k.state ≠ .pinned) (fun k => ?_) (fun k hk => ?_) a
    · by_cases pinned : k.state = .pinned <;> simp [pinned, KnotRecord.unpinned]
    · simp [hk]
  | retire c r =>
    refine Application.fold_dirtyFollows d id (fun _ => r) (fun _ => c)
      (fun a p old => some (old.retiredWith (a.grid.fill d p r c) frame)) (fun _ _ => True) _ (fun _ _ _ => trivial)
      (List.nodup_range.imp fun {p q} other b _ => ⟨trivial, ?_⟩) a
    exact Application.update_watchedAt_other fun same => other (Descriptor.index_plane_inj same)
  | restore c r =>
    refine Application.sweep_dirtyFollows (plane := id) (row := fun _ => r) (column := fun _ => c)
      (fun k => k.state ≠ .retired) (fun k => ?_) (fun k hk => ?_) a
    · by_cases retired : k.state = .retired <;> simp [retired, KnotRecord.restored]
    · simp [hk]

/-- The dirty flag of an entry, by the records before and after it (R12). -/
theorem Application.apply_dirty_iff (d : Descriptor) (frame : FrameNumber) (a : Application) (e : Entry) :
    (a.apply d frame e).dirty = true ↔
      a.dirty = true ∨ ∃ (i : Nat) (old new : KnotRecord), a.grid.records[i]? = some old ∧
        (a.apply d frame e).grid.records[i]? = some new ∧
        (new.trim ≠ old.trim ∨ new.state ≠ old.state ∨ new.hits ≠ old.hits) := by
  refine Iff.trans (a.apply_dirtyFollows d frame e) (or_congr_right (exists_congr fun i => ?_))
  simp only [← KnotRecord.watched_ne_iff, Application.watchedAt]
  by_cases inside : i < a.grid.records.length
  · simp [inside]
  · have outside : a.grid.records[i]? = none := List.getElem?_eq_none_iff.mpr (Nat.not_lt.mp inside)
    have outside' : (a.apply d frame e).grid.records[i]? = none :=
      List.getElem?_eq_none_iff.mpr (by rw [Application.apply_length]; exact Nat.not_lt.mp inside)
    simp [outside, outside']

/-! ## ALL_CONVERGED (R15) -/

/-- Every record is PINNED, RETIRED, CONVERGED or of another state. -/
theorem length_eq_counts (l : List KnotRecord) :
    l.length = l.countP (·.state == .pinned) + l.countP (·.state == .retired) + l.countP (·.state == .converged) +
      l.countP (fun r => r.state != .pinned && r.state != .retired && r.state != .converged) := by
  induction l with
  | nil => rfl
  | cons r l ih =>
    simp only [List.length_cons, List.countP_cons, ih]
    cases r.state <;> simp <;> omega

/-- The counts of the planes sum to those of the collection (R13). -/
theorem sum_countP_planes (q : KnotRecord → Bool) (k n : Nat) (l : List KnotRecord) :
    ((List.range n).map (fun p => ((l.drop (p * k)).take k).countP q)).sum = (l.take (n * k)).countP q := by
  induction n with
  | zero => simp
  | succ n ih =>
    rw [List.range_succ, List.map_append, List.sum_append, ih, Nat.succ_mul, List.take_add, List.countP_append]
    simp

theorem GridStore.judge_iff {g : GridStore} (shape : g.shapeSound) (counts : g.countsSound) :
    g.judge = true ↔ (∃ r ∈ g.records, r.state ≠ .retired ∧ r.state ≠ .pinned) ∧
      ∀ r ∈ g.records, r.state ≠ .retired → r.state ≠ .pinned → r.state = .converged := by
  cases hd : g.descriptor with
  | none => simp [GridStore.judge, hd, shape.1 hd]
  | some d =>
    obtain ⟨-, length⟩ := shape.2 d hd
    have whole : g.records.take (d.planes * d.knots) = g.records :=
      List.take_of_length_le (by rw [length, Descriptor.triples, Nat.mul_comm])
    have total (kind : StateCounts → Nat) (q : KnotRecord → Bool)
        (of : ∀ l, kind (StateCounts.ofRecords l) = l.countP q) : countAll g.counts kind = g.records.countP q := by
      rw [counts.2 d hd, countAll, countsOf, List.map_map, ← whole, ← sum_countP_planes]
      refine congrArg List.sum (List.map_congr_left fun p _ => ?_)
      rw [whole]
      exact of _
    have split := length_eq_counts g.records
    rw [length] at split
    have judged : g.judge = true ↔ 0 < g.records.countP (·.state == .converged) ∧
        g.records.countP (fun r => r.state != .pinned && r.state != .retired && r.state != .converged) = 0 := by
      simp only [GridStore.judge, hd, total (·.converged) (·.state == .converged) fun _ => rfl,
        total (·.pinned) (·.state == .pinned) fun _ => rfl, total (·.retired) (·.state == .retired) fun _ => rfl,
        Bool.and_eq_true, decide_eq_true_eq, beq_iff_eq]
      omega
    rw [judged, List.countP_pos_iff, List.countP_eq_zero]
    simp only [Bool.and_eq_true, bne_iff_ne, beq_iff_eq]
    constructor
    · rintro ⟨⟨r, hr, converged⟩, none⟩
      refine ⟨⟨r, hr, by simp [converged]⟩, fun k hk unretired unpinned => ?_⟩
      by_contra other
      exact none k hk ⟨⟨unpinned, unretired⟩, other⟩
    · rintro ⟨⟨r, hr, unretired, unpinned⟩, all⟩
      exact ⟨⟨r, hr, all r hr unretired unpinned⟩, fun k hk ⟨⟨unpinned, unretired⟩, other⟩ =>
        other (all k hk unretired unpinned)⟩

/-! ## The decision on application (R43, R45, R49) -/

/-- The guard runs on after it has added the step (R45, R50, R51). -/
def State.guardRuns (s : State) : Prop :=
  ∃ acc, s.queue.guard = .running acc ∧ (s.book.guardFresh = true ∨ acc + s.comingStep < s.detector.guardTime)

theorem State.addGuard_stopped_iff (s : State) : (s.addGuard s.comingStep).queue.guard = .stopped ↔ ¬s.guardRuns := by
  rw [State.addGuard_queue, State.guardRuns]
  cases s.queue.guard with
  | stopped => simp
  | running acc =>
    cases s.book.guardFresh with
    | true => simp
    | false => simp

/-- The queue is applied exactly where nothing suspends it and an entry waits (R43, R45). -/
theorem State.applies_iff (s : State) :
    s.applies = true ↔ s.queue.hold ≠ .held ∧ ¬s.guardRuns ∧ s.saveRuns = false ∧ s.queue.entries ≠ [] := by
  simp only [State.applies, State.suspended, State.addGuard_hold, State.addGuard_saveRuns, Bool.and_eq_true,
    Bool.not_eq_true', Bool.or_eq_false_iff, beq_eq_false_iff_ne, bne_eq_false_iff_eq, State.addGuard_stopped_iff,
    List.isEmpty_eq_false_iff, and_assoc]

/-- What the judged value of ALL_CONVERGED does to its flag at a frame start (R15). -/
theorem State.frameStart_converged_flags (s : State) (input : Option InputFrame) (b : Bool) :
    ((s.frameStart input).attention.raiseIf b .input).lineFlags.getLsbD 4 =
        (s.attention.lineFlags.getLsbD 4 || (s.applies && s.applied.grid.judge != s.grid.allConverged)) ∧
      ((s.frameStart input).attention.raiseIf b .input).setFlags.getLsbD 4 =
        (s.attention.setFlags.getLsbD 4 || (s.applies && s.applied.grid.judge != s.grid.allConverged)) := by
  rw [State.frameStart_attention]
  simp only [AttentionUnit.raiseIf_lineFlags_getLsbD, AttentionUnit.raiseIf_setFlags_getLsbD]
  simp [Flag.bit]

/-- What a frame start has no part in (O26). -/
theorem State.frameStart_keeps (s : State) (input : Option InputFrame) :
    (s.frameStart input).pending = s.pending ∧ (s.frameStart input).pins = s.pins ∧
      (s.frameStart input).conv = s.conv ∧ (s.frameStart input).modes = s.modes ∧
      (s.frameStart input).setPort = s.setPort := by
  refine ⟨?_, ?_, ?_, ?_, ?_⟩ <;> simp

/-- Settles O26. -/
theorem frameStartAppliesUnlessSuspended : Obligations.FrameStartAppliesUnlessSuspended := by
  unfold Obligations.FrameStartAppliesUnlessSuspended
  refine ⟨fun s o h => ?_, Application.apply_dirty_iff, fun g => GridStore.judge_iff⟩
  obtain ⟨c, b, hx⟩ := exec_frameStart h
  obtain ⟨pending, pins, conv, modes, setPort⟩ := s.frameStart_keeps (inputOf o)
  obtain ⟨lineFlag, setFlag⟩ := s.frameStart_converged_flags (inputOf o) b
  refine ⟨_, hx, ⟨pending, pins, conv, modes, setPort, ?_, ?_, ?_, ?_, fun idle => ?_⟩, ?_⟩
  · exact State.frameStart_store s (inputOf o) ▸ rfl
  · exact State.frameStart_detector s (inputOf o) ▸ rfl
  · simp [State.frameStart_attention]
  · simp [State.frameStart_attention]
  · dsimp only
    rw [State.frameStart_creds, State.addGap_creds, idle]
  · intro guardRuns unapplied
    have left (apart : ¬s.applies = true) :
        (s.frameStart (inputOf o)).queue.entries = s.queue.entries ∧
          (s.frameStart (inputOf o)).queue.hold = s.queue.hold ∧ unapplied := by
      rw [Bool.not_eq_true] at apart
      refine ⟨?_, ?_, ?_, ?_, lineFlag.trans (by simp [apart]), setFlag.trans (by simp [apart]), ?_⟩
      · simp [State.frameStart_queue, apart]
      · simp [State.frameStart_queue, apart]
      · simp [State.frameStart_grid, apart]
      · simp [State.frameStart_linePort, apart]
      · simp [State.frameStart_store, apart]
    refine ⟨fun suspended => left fun applies => ?_, fun open_ running idle empty => ?_,
      fun open_ running idle waiting d hd => ?_⟩
    · obtain ⟨open_, running, idle, -⟩ := s.applies_iff.mp applies
      rcases suspended with held | runs | saves
      · exact open_ held
      · exact running runs
      · exact Bool.false_ne_true (idle.symm.trans saves)
    · obtain ⟨entries, rest⟩ := left fun applies => (s.applies_iff.mp applies).2.2.2 empty
      exact ⟨entries.trans empty, rest⟩
    · have applies := s.applies_iff.mpr ⟨open_, running, idle, waiting⟩
      intro a
      have made : s.applied = a := by
        rewrite [State.applied, applyEntries, hd]
        rfl
      refine ⟨?_, ?_, ?_, lineFlag.trans ?_, setFlag.trans ?_, ?_, fun none => ?_, fun status fields some => ?_⟩
      · simp [State.frameStart_queue, applies]
      · simp [State.frameStart_queue, applies]
      · simp [State.frameStart_grid, applies, made]
      · rw [applies, made, Bool.true_and]
      · rw [applies, made, Bool.true_and]
      · simp [State.frameStart_store, applies, made]
      · simp [State.frameStart_linePort, applies, made, none]
      · simp [State.frameStart_linePort, applies, made, some]

end Sys2Proof.Machine
end
